-- ==== Sys2Proof/Word.lean ====
section
/-! DEFINITION. The widths of rule R6 (00_scope.md) as types, the level of a tachometer line (R10),
and the one-value-per-PWM-channel record. -/

namespace Sys2Proof

/-- A Tick: unsigned, `TW = 32` bits (R6, R18). -/
abbrev Tick := BitVec 32

/-- A Duration: an unsigned `TW`-bit count of ticks (R18, R110). -/
abbrev Duration := BitVec 32

/-- A fixed-point value: the `FXW = 48`-bit two's-complement raw integer of R11 (value times 65536). -/
abbrev Fx := BitVec 48

/-- One ADC sample slot, `AW = 16` bits (R6, R33). -/
abbrev AdcCode := BitVec 16

/-- A pulse counter or an RPM value, `PCW = 32` bits (R6, R37, R38). -/
abbrev PulseCount := BitVec 32

/-- A result field of a response, `RW = 48` bits (R6, R82). -/
abbrev Result := BitVec 48

/-- A channel index of a command, `CHW = 4` bits (R6, R80). -/
abbrev ChannelIndex := BitVec 4

/-- The flag set or a flag mask, `NFLAG = 3` bits (R6, R32). -/
abbrev FlagSet := BitVec 3

/-- A command word, `CMDW = 96` bits (R80). -/
abbrev CommandWord := BitVec 96

/-- A response word, 104 bits (R82). -/
abbrev ResponseWord := BitVec 104

/-- The event port `ev[3:0]` (R83). -/
abbrev EventVector := BitVec 4

/-- The `tach_level` port: bit `i` is channel `i` (R200); at most 16 channels. -/
abbrev LevelVector := BitVec 16

/-- A tachometer level: 0 is `Low`, 1 is `High` (R10). -/
inductive Level where
  | low
  | high
  deriving DecidableEq, Repr, Inhabited

/-- One fixed-point value for each of the `NPWM = 3` PWM channels (R6, R43, R45 `FLOOR[c]`). -/
structure PerPwm where
  ch0 : Fx
  ch1 : Fx
  ch2 : Fx
  deriving DecidableEq, Repr, Inhabited

end Sys2Proof
end

