-- ==== Sys2Proof/Config.lean ====
section
/-! DEFINITION. The configuration record `Cfg` of rule R45 (10_state.md) with its legal values (R45, R46),
the reference configuration `CFG_REF`, what the input ports can carry (R200), and the two values the spec
leaves free: the sensor curve at its singular points (U1) and the environment's inputs (U10, U11). -/

namespace Sys2Proof

/-- `SAMPLE_MODE` (R45): whether `EV_TEMP` itself writes a sample (R190). -/
inductive SampleMode where
  | event
  | polled
  deriving DecidableEq, Repr, Inhabited

/-- The configuration record of R45, field by field; read-only for every operation. -/
structure Cfg where
  /-- `TICK_HZ`: ticks per second of the `tick` port. -/
  tickHz : Nat
  /-- `N`: number of fan channels. -/
  n : Nat
  /-- `CAP`: capacity of the sample buffer. -/
  cap : Nat
  /-- `ADC_MAX`: the largest ADC code. -/
  adcMax : Nat
  /-- `PREFILL`: what every buffer slot holds after reset. -/
  prefill : Nat
  /-- `SAMPLE_MODE`. -/
  sampleMode : SampleMode
  /-- `RDIV`: the divider resistance, ohms. -/
  rdiv : Fx
  /-- `OFFSET` of the sensor curve, degrees. -/
  offset : Fx
  /-- `CA`, the curve's `a`. -/
  ca : Fx
  /-- `CB`, the curve's `b`. -/
  cb : Fx
  /-- `CC`, the curve's `c`. -/
  cc : Fx
  /-- `CD`, the curve's `d`, ohms. -/
  cd : Fx
  /-- `DEB_TICKS`: the debounce threshold, ticks. -/
  debTicks : Nat
  /-- `RISE_LEVEL`: the level that is the rising polarity. -/
  riseLevel : Level
  /-- `RPM_SCALE`. -/
  rpmScale : Nat
  /-- `RPM_WINDOW_MS`: read by no rule; tied to `RPM_SCALE` by R46 (2). -/
  rpmWindowMs : Nat
  /-- `PPR`: pulses per revolution; read by no rule; tied to `RPM_SCALE` by R46 (2). -/
  ppr : Nat
  /-- `SP`: the setpoint, degrees. -/
  sp : Fx
  /-- `KP`. -/
  kp : Fx
  /-- `KI`. -/
  ki : Fx
  /-- `KD`. -/
  kd : Fx
  /-- `FLOOR[c]`, one per PWM channel. -/
  floor : PerPwm
  deriving DecidableEq, Repr

/-- A floor within `[0.0, 100.0]` (R45, R46 (4)). -/
def floorLegal (f : Fx) : Bool :=
  decide (0 ≤ f.toInt) && decide (f.toInt ≤ 6553600)

/-- The constraints (1), (2) and (4) of R46: outside them the rules say nothing about a configuration and a
model refuses it (U3). Constraint (3), the calibration, is not one of them: see `Calibrated` in Safety.lean. -/
def Cfg.wf (c : Cfg) : Bool :=
  (decide (1 ≤ c.tickHz) && decide (c.tickHz < 4294967296)) &&
  (decide (1 ≤ c.n) && decide (c.n ≤ 16)) &&
  (decide (1 ≤ c.cap) && decide (c.cap ≤ 256)) &&
  (decide (1 ≤ c.adcMax) && decide (c.adcMax ≤ 65535)) &&
  decide (c.prefill ≤ c.adcMax) &&
  decide (c.debTicks < 4294967296) &&
  (decide (1 ≤ c.rpmScale) && decide (c.rpmScale < 4294967296)) &&
  decide (1 ≤ c.rpmWindowMs) &&
  decide (1 ≤ c.ppr) &&
  decide (c.rpmScale * c.rpmWindowMs * c.ppr = 60000) &&
  (floorLegal c.floor.ch0 && floorLegal c.floor.ch1 && floorLegal c.floor.ch2)

/-- `CFG_REF`, the reference configuration (R45, reference values; D6). -/
def cfgRef : Cfg where
  tickHz := 1000
  n := 12
  cap := 10
  adcMax := 4095
  prefill := 1365
  sampleMode := .event
  rdiv := 655360000#48
  offset := 327680#48
  ca := 0#48
  cb := 0#48
  cc := 26214400000#48
  cd := 0#48
  debTicks := 1
  riseLevel := .high
  rpmScale := 8
  rpmWindowMs := 3750
  ppr := 2
  sp := 2293760#48
  kp := 131072#48
  ki := 1311#48
  kd := 0#48
  floor := { ch0 := 1310720#48, ch1 := 1310720#48, ch2 := 1310720#48 }

/-- What the input ports carry when an operation starts (R44, R200). An absent command (`cmd = none`) is the host
presenting nothing (R89). -/
structure Ports where
  /-- `rst` (R215). -/
  rst : Bool
  /-- `cmd[95:0]`, when the host presents a command. -/
  cmd : Option CommandWord
  /-- `ev[3:0]`: each bit at 1 is one occurrence of that event (R83). -/
  ev : EventVector
  /-- `tick[31:0]`. -/
  tick : Tick
  /-- `tach_level`; the bits from `cfg.N` up are not connected. -/
  tachLevel : LevelVector
  /-- `adc_raw[15:0]`. -/
  adcRaw : AdcCode
  deriving DecidableEq, Repr, Inhabited

/-- Ports on which nothing is presented and every data port reads 0. -/
def Ports.quiet : Ports :=
  { rst := false, cmd := none, ev := 0#4, tick := 0#32, tachLevel := 0#16, adcRaw := 0#16 }

/-- Whether nothing is presented: no reset, no command, no event. -/
def Ports.isIdle (p : Ports) : Bool :=
  !p.rst && p.cmd.isNone && p.ev == 0#4

/-- FREE VALUE (log 3; U1, R126): the `r0` of a `TEMPRD` at a singular point of the sensor curve, one fresh
48-bit value for each such `TEMPRD`. -/
opaque Config.freeCurve : Nat → Result

/-- FREE VALUE (log 1; U10, U11, R17): what the environment presents when the state schedules nothing. -/
opaque Config.freePorts : Nat → Ports

end Sys2Proof
end

