-- ==== Sys2Proof/Machine/State.lean ====
section
/-! DEFINITION. The state of the WCC (10_state.md rules R32 to R43), what the model carries beside it (the
configuration, the response just given, the environment's schedule, the counters of the free values), and reset. -/

namespace Sys2Proof.Machine

/-- The one internal memory of the WCC, the sample buffer `BUF` (R33, R60): slot `k` is entry `k`. Nothing in the WCC
is byte-addressed (R63), so its cells are whole 16-bit slots (log 7). -/
abbrev Memory := List AdcCode

/-- The canonical form: exactly `cfg.CAP` slots (R33). Every slot is listed, so equal memories are equal lists. -/
def Memory.wf (cap : Nat) (m : Memory) : Bool :=
  m.length == cap

/-- The state of one fan channel (R35 to R38). -/
structure FanChannel where
  /-- `LVL[i]`: the last accepted level (R35). -/
  lvl : Level
  /-- `LTT[i]`: the tick of the last accepted transition (R36). -/
  ltt : Tick
  /-- `PCNT[i]`: the pulse counter (R37). -/
  pcnt : PulseCount
  /-- `RPM[i]`: the last computed RPM (R38). -/
  rpm : PulseCount
  deriving DecidableEq, Repr, Inhabited

/-- The `status` bit of a response (R82): `OK` is 0, `ERR` is 1. -/
inductive Status where
  | ok
  | err
  deriving DecidableEq, Repr

/-- A response (R82). -/
structure Response where
  status : Status
  r0 : Result
  r1 : Result
  deriving DecidableEq, Repr

/-- Why a step could stop with a fault. THERE IS NO FAULT: "A model therefore has no fault outcome for the WCC" (R186),
so the type has no constructor and no one raises one (safe). -/
inductive Fault where
  deriving DecidableEq, Repr

/-- Why a step is refused. -/
inductive Refusal where
  /-- Raised by an arm of `exec` whose instruction has no meaning yet; no arm raises it now (safe: the run ends). -/
  | notModelled (mnemonic : String)
  /-- Raised by `step` alone, never by an instruction, when the configuration breaks R46 (1), (2) or (4): U3 says to
  refuse to instantiate it (safe: the run ends before any operation). -/
  | configOutsideSpec
  deriving DecidableEq, Repr

/-- The state of the machine. The fields from `flags` to `duty` are the WCC's own (R47's table); the others are the
model's (logs 1 to 4). -/
structure State where
  /-- The configuration of the instance (R45); no operation writes it (log 2). -/
  cfg : Cfg
  /-- `FLAGS[2:0]` (R32). -/
  flags : FlagSet
  /-- `BUF` (R33). -/
  buf : Memory
  /-- `WIDX`, stored in 8 bits (R34). -/
  widx : BitVec 8
  /-- `LVL`, `LTT`, `PCNT`, `RPM`, one record per fan channel (R35 to R38). -/
  fans : List FanChannel
  /-- `INTEG` (R39). -/
  integ : Fx
  /-- `LERR` (R40). -/
  lerr : Fx
  /-- `LTIME` (R41). -/
  ltime : Tick
  /-- `LOUT` (R42). -/
  lout : Fx
  /-- `DUTY[c]` (R43). -/
  duty : PerPwm
  /-- The response of the operation just performed: none after an event, a reset or an idle step (R83, R89, R218;
  log 6). -/
  rsp : Option Response
  /-- What the ports carry at the coming operations, the next one first; when it is empty the environment is free
  (log 1). -/
  inbox : List Ports
  /-- How many free port values have been drawn (log 1). -/
  inputDraws : Nat
  /-- How many free values of the sensor curve have been drawn (log 3). -/
  curveDraws : Nat
  deriving DecidableEq, Repr

/-- A fan channel after reset (R47). -/
def FanChannel.resetAt (now0 : Tick) : FanChannel :=
  { lvl := .low, ltt := now0, pcnt := 0#32, rpm := 0#32 }

/-- The state after reset as the function `reset(cfg, now0)` of R217: the table of R47. -/
def State.resetAt (cfg : Cfg) (now0 : Tick) : State where
  cfg := cfg
  flags := 0b000#3
  buf := List.replicate cfg.cap (BitVec.ofNat 16 cfg.prefill)
  widx := 0#8
  fans := List.replicate cfg.n (FanChannel.resetAt now0)
  integ := 0#48
  lerr := 0#48
  ltime := now0
  lout := 3276800#48
  duty := cfg.floor
  rsp := none
  inbox := []
  inputDraws := 0
  curveDraws := 0

/-- The machine right after reset: the reference configuration (log 2), reset at tick 0 (log 4), nothing scheduled. -/
def State.reset : State :=
  State.resetAt cfgRef 0#32

end Sys2Proof.Machine
end

