-- ==== Sys2Proof/Machine/Ops.lean ====
section
/-! DEFINITION. The shared operations: arithmetic (00_scope.md rules R9 to R14), the port values an operation samples
(R16, R17), writes of the state, the sample buffer's primitives (R61), responses (R82, R88), the output ports (R168) and
reset as an operation (R215). The WCC takes no exception and returns from none (R186, R197, R198): there is no such
operation to share. -/

namespace Sys2Proof

/-- The level a bit of `tach_level` shows (R10). -/
def Level.ofBit (b : Bool) : Level :=
  if b then .high else .low

/-- Element `c` (R16, `NAME[c]`). -/
def PerPwm.get (p : PerPwm) (c : Fin 3) : Fx :=
  match c with
  | 0 => p.ch0
  | 1 => p.ch1
  | 2 => p.ch2

/-- Element `c` replaced, the other two kept (R16, `NAME[c] <- v`). -/
def PerPwm.set (p : PerPwm) (c : Fin 3) (v : Fx) : PerPwm :=
  match c with
  | 0 => { p with ch0 := v }
  | 1 => { p with ch1 := v }
  | 2 => { p with ch2 := v }

namespace Machine

/-- `FX_MAX` (R11). -/
def fxMax : Int := 140737488355327

/-- `FX_MIN` (R11). -/
def fxMin : Int := -140737488355328

/-- `sat(x)` (R12). -/
def sat (x : Int) : Int := min (max x fxMin) fxMax

/-- `fdiv(n, d)`, rounding toward minus infinity (R13); no rule evaluates it at `d = 0`. -/
def fdiv (n d : Int) : Int := Int.fdiv n d

/-- `clamp(x, lo, hi)` (R14). -/
def clamp (x lo hi : Int) : Int := min (max x lo) hi

/-- The raw integer as a 48-bit two's-complement value (R9 `sext`, R11). -/
def toFx (x : Int) : Fx := BitVec.ofInt 48 x

/-! ### What an operation samples -/

/-- The ports as the next operation finds them: the head of the schedule, or the environment's free choice (log 1). -/
def State.input (s : State) : Ports :=
  match s.inbox with
  | p :: _ => p
  | [] => Config.freePorts s.inputDraws

/-- `now` (R17). -/
def State.now (s : State) : Tick := s.input.tick

/-- `adc` (R16). -/
def State.adc (s : State) : AdcCode := s.input.adcRaw

/-- `lvl`, all channels (R16). -/
def State.levels (s : State) : LevelVector := s.input.tachLevel

/-! ### Writes of the state -/

/-- `FLAGS <- v`. -/
def State.setFlags (v : FlagSet) (s : State) : State := { s with flags := v }

/-- `BUF` and `WIDX` written together, as `sampleWrite` does (R120). -/
def State.setBuf (m : Memory) (k : BitVec 8) (s : State) : State := { s with buf := m, widx := k }

/-- The fan-channel file written. -/
def State.setFans (f : List FanChannel) (s : State) : State := { s with fans := f }

/-- `INTEG`, `LERR`, `LTIME`, `LOUT` written together, as `pidUpdate` does (R150). -/
def State.setPid (integ lerr : Fx) (ltime : Tick) (lout : Fx) (s : State) : State :=
  { s with integ := integ, lerr := lerr, ltime := ltime, lout := lout }

/-- The duty file written. -/
def State.setDuty (d : PerPwm) (s : State) : State := { s with duty := d }

/-- What the response port shows. -/
def State.setRsp (r : Option Response) (s : State) : State := { s with rsp := r }

/-- The next free value of the sensor curve becomes the current one (log 3). -/
def State.drawCurve (s : State) : State := { s with curveDraws := s.curveDraws + 1 }

/-- The schedule of the environment and the count of free draws (log 1). -/
def State.setInbox (l : List Ports) (n : Nat) (s : State) : State := { s with inbox := l, inputDraws := n }

/-! ### Responses -/

/-- `respond OK(r0, r1)` (R16, R82). -/
def respondOk (r0 r1 : Result) (s : State) : State := s.setRsp (some { status := .ok, r0 := r0, r1 := r1 })

/-- `respond ERR`: `status = 1`, both results 0, no state written (R16, R88). -/
def respondErr (s : State) : State := s.setRsp (some { status := .err, r0 := 0#48, r1 := 0#48 })

/-- No response: an event gets none (R83). -/
def noResponse (s : State) : State := s.setRsp none

/-- The `status` bit (R82). -/
def Status.bit : Status → BitVec 1
  | .ok => 0#1
  | .err => 1#1

/-- The response word of R82: `status | r0 << 8 | r1 << 56`, the other bits zero. -/
def Response.word (r : Response) : ResponseWord :=
  r.status.bit.setWidth 104 ||| r.r0.setWidth 104 <<< 8 ||| r.r1.setWidth 104 <<< 56

/-! ### The sample buffer -/

/-- `BufRead(i)` (R61). No rule reads outside `0 .. CAP-1`. -/
def bufRead (m : Memory) (i : Nat) : AdcCode := m.getD i 0#16

/-- `BufWrite(i, v)`: slot `i` set, no other slot changed (R61). -/
def bufWrite (m : Memory) (i : Nat) (v : AdcCode) : Memory := m.set i v

/-- `SUM`, all slots (R122). -/
def bufSum : Memory → Nat
  | [] => 0
  | v :: m => v.toNat + bufSum m

/-! ### Outputs and reset -/

/-- The output port `pwm_duty[c]`: the low 24 bits of `DUTY[c]` (R168). -/
def State.pwmDuty (s : State) (c : Fin 3) : BitVec 24 := (s.duty.get c).extractLsb' 0 24

/-- Reset as an operation (R215, R216, R219): every state element takes its value of R47 with `now0` the sampled tick,
and there is no response. The schedule and the draw counters are not the WCC's and stay. -/
def resetOp (s : State) : State :=
  { State.resetAt s.cfg s.now with inbox := s.inbox, inputDraws := s.inputDraws, curveDraws := s.curveDraws }

end Machine

end Sys2Proof
end

