-- ==== Sys2Proof/Machine/Operands.lean ====
section
/-! DEFINITION. How operands are read and results are formed (30_encoding.md rules R82, R84; R62). -/

namespace Sys2Proof.Machine

/-- An `Fx` operand: `signed_48(a)`, the raw value (R84). -/
def fxOperand (a : Fx) : Int := a.toInt

/-- A Tick, a Duration, an RPM or a flag set as a result: `zext_48` (R9, R82). -/
def zext48 {w : Nat} (v : BitVec w) : Result := v.setWidth 48

/-- `zext_48(b2n(c))` (R10, R82). -/
def boolResult (c : Bool) : Result := if c then 1#48 else 0#48

/-- An `Fx` as a result: its 48-bit two's-complement pattern (R82). -/
def fxResult (x : Int) : Result := toFx x

/-- A fan-channel operand is legal when `ch < cfg.N` (R62, R84). -/
def fanLegal (cfg : Cfg) (ch : ChannelIndex) : Bool := decide (ch.toNat < cfg.n)

/-- A PWM-channel operand: legal when `ch < 3` (R62, R84). -/
def pwmChannel (ch : ChannelIndex) : Option (Fin 3) :=
  if h : ch.toNat < 3 then some ⟨ch.toNat, h⟩ else none

/-- Fan channel `i` of the file (R16, `NAME[i]`). In a state with `cfg.N` channels no rule reads outside it. -/
def fanAt (fans : List FanChannel) (i : Nat) : FanChannel := fans.getD i default

end Sys2Proof.Machine
end

