-- ==== Sys2Proof/Machine/Flags.lean ====
section
/-! DEFINITION. The three latched flags (10_state.md rule R32): their bits, set by events, cleared by `FLAGCLR`. There
are no condition codes (R32). -/

namespace Sys2Proof.Machine

/-- `TEMP_DUE`, bit 0 (R32). -/
def tempDue : FlagSet := 0b001#3

/-- `RPM_DUE`, bit 1 (R32). -/
def rpmDue : FlagSet := 0b010#3

/-- `PID_DUE`, bit 2 (R32). -/
def pidDue : FlagSet := 0b100#3

/-- `FLAGS <- FLAGS OR m` (R190 to R192). -/
def raiseFlags (m : FlagSet) (s : State) : State := s.setFlags (s.flags ||| m)

/-- `old AND (NOT mask)` (R177). -/
def clearedFlags (old mask : FlagSet) : FlagSet := old &&& ~~~mask

end Sys2Proof.Machine
end

