-- ==== Sys2Proof/Machine/Actuation.lean ====
section
/-! DEFINITION. The ActuationLayer (44_actuation.md rules R165 to R167): the floor clamp and the commands `APPLY` and
`APPLYCH`. -/

namespace Sys2Proof.Machine

/-- `clampDuty(c, D)` (R165). -/
def clampDuty (cfg : Cfg) (c : Fin 3) (d : Int) : Fx := toFx (clamp d (cfg.floor.get c).toInt 6553600)

/-- The three channels, each clamped with its own floor (R166). -/
def clampAll (cfg : Cfg) (d : Int) : PerPwm :=
  { ch0 := clampDuty cfg 0 d, ch1 := clampDuty cfg 1 d, ch2 := clampDuty cfg 2 d }

/-- `APPLY duty` (R166). -/
def execApplyDuty (duty : Fx) (s : State) : Host.Outcome State Fault Refusal :=
  .next (respondOk (clampDuty s.cfg 0 (fxOperand duty)) 0#48 (s.setDuty (clampAll s.cfg (fxOperand duty))))

/-- `APPLYCH ch, duty` (R167). -/
def execApplyCh (ch : ChannelIndex) (duty : Fx) (s : State) : Host.Outcome State Fault Refusal :=
  match pwmChannel ch with
  | none => .next (respondErr s)
  | some c =>
    let v := clampDuty s.cfg c (fxOperand duty)
    .next (respondOk v 0#48 (s.setDuty (s.duty.set c v)))

end Sys2Proof.Machine
end

