-- ==== Sys2Proof/Machine/Clock.lean ====
section
/-! DEFINITION. The Clock unit (40_clock.md rules R110 to R113): two pure functions, written for any counter width as
R6 says, and the commands `ELAPSED` and `DUETIME`. -/

namespace Sys2Proof.Machine

/-- `elapsedSince(reference, now) = umod_TW(now - reference)` (R110). -/
def elapsedSince {w : Nat} (reference now : BitVec w) : BitVec w := now - reference

/-- `dueTime(lastDeadline, period, now)`: whether it fired, and the next deadline (R111). -/
def dueTime {w : Nat} (lastDeadline period now : BitVec w) : Bool × BitVec w :=
  if (elapsedSince lastDeadline now).toNat < 2 ^ (w - 1) then
    if 2 ^ w ≤ lastDeadline.toNat + period.toNat then (true, now + period)
    else (true, BitVec.ofNat w (lastDeadline.toNat + period.toNat))
  else (false, lastDeadline)

/-- `ELAPSED reference` (R112). -/
def execElapsed (reference : Tick) (s : State) : Host.Outcome State Fault Refusal :=
  .next (respondOk (zext48 (elapsedSince reference s.now)) 0#48 s)

/-- `DUETIME lastDeadline, period` (R113). -/
def execDuetime (lastDeadline : Tick) (period : Duration) (s : State) : Host.Outcome State Fault Refusal :=
  let d := dueTime lastDeadline period s.now
  .next (respondOk (boolResult d.1) (zext48 d.2) s)

end Sys2Proof.Machine
end

