-- ==== Sys2Proof/Machine/Tachometer.lean ====
section
/-! DEFINITION. The TachometerTracker (42_tachometer.md rules R135 to R140): the debounced poll, the RPM window, and the
commands `TACHPOLL`, `RPMWIN` and `RPMRD`. -/

namespace Sys2Proof.Machine

/-- Whether a change of the input is accepted (R136): the level differs and strictly more than `cfg.DEB_TICKS` ticks have
passed since the last accepted transition. -/
def accepted (cfg : Cfg) (now : Tick) (cur : Level) (f : FanChannel) : Bool :=
  decide (cur ≠ f.lvl) && decide (cfg.debTicks < (elapsedSince f.ltt now).toNat)

/-- `pollChannel(i, now)` on the channel's record, `cur` being `lvl[i]` (R136). -/
def pollChannel (cfg : Cfg) (now : Tick) (cur : Level) (f : FanChannel) : FanChannel :=
  if accepted cfg now cur f then
    { f with lvl := cur, ltt := now, pcnt := if cur = cfg.riseLevel then f.pcnt + 1#32 else f.pcnt }
  else f

/-- The poll of the channels `i, i+1, …` of the file (R137). -/
def pollFrom (cfg : Cfg) (now : Tick) (levels : LevelVector) : Nat → List FanChannel → List FanChannel
  | _, [] => []
  | i, f :: fs => pollChannel cfg now (Level.ofBit (levels.getLsbD i)) f :: pollFrom cfg now levels (i + 1) fs

/-- `for every i in 0 .. cfg.N-1: pollChannel(i, now)` (R137, R193). -/
def pollAll (s : State) : State := s.setFans (pollFrom s.cfg s.now s.levels 0 s.fans)

/-- One channel of `rpmWindow()` (R138): the scaled count reduced to 32 bits, and the counter cleared. -/
def windowChannel (cfg : Cfg) (f : FanChannel) : FanChannel :=
  { f with rpm := BitVec.ofNat 32 (f.pcnt.toNat * cfg.rpmScale), pcnt := 0#32 }

/-- `rpmWindow()` (R138). -/
def rpmWindow (s : State) : State := s.setFans (s.fans.map (windowChannel s.cfg))

/-- `TACHPOLL` (R137). -/
def execTachpoll (s : State) : Host.Outcome State Fault Refusal :=
  .next (respondOk 0#48 0#48 (pollAll s))

/-- `RPMWIN` (R139). -/
def execRpmwin (s : State) : Host.Outcome State Fault Refusal :=
  .next (respondOk 0#48 0#48 (rpmWindow s))

/-- `RPMRD ch` (R140). -/
def execRpmrd (ch : ChannelIndex) (s : State) : Host.Outcome State Fault Refusal :=
  if fanLegal s.cfg ch then .next (respondOk (zext48 (fanAt s.fans ch.toNat).rpm) 0#48 s)
  else .next (respondErr s)

end Sys2Proof.Machine
end

