-- ==== Sys2Proof/Machine/Temperature.lean ====
section
/-! DEFINITION. The TemperatureSampler (41_temperature.md rules R120 to R126): the sample write, the mean, the sensor
curve, and the commands `TSAMPLE` and `TEMPRD`. -/

namespace Sys2Proof.Machine

/-- `(WIDX + 1) mod cfg.CAP` (R120). -/
def nextIndex (cap : Nat) (k : BitVec 8) : BitVec 8 := BitVec.ofNat 8 ((k.toNat + 1) % cap)

/-- `sampleWrite(v)` (R120): the slot `WIDX` names, then the index advanced. -/
def sampleWrite (v : AdcCode) (s : State) : State :=
  s.setBuf (bufWrite s.buf s.widx.toNat v) (nextIndex s.cfg.cap s.widx)

/-- `meanQ16 = fdiv(SUM * 65536, cfg.CAP)` (R122). -/
def meanQ16 (cfg : Cfg) (sum : Nat) : Int := fdiv ((sum : Int) * 65536) cfg.cap

/-- `P` of R124. -/
def curveP (cfg : Cfg) (sum : Nat) : Int := ((cfg.adcMax : Int) * cfg.cap - sum) * cfg.rdiv.toInt

/-- `Q` of R124. -/
def curveQ (sum : Nat) : Int := (sum : Int) * 65536

/-- `den` of R124. -/
def curveDen (cfg : Cfg) (sum : Nat) : Int :=
  curveQ sum * (65536 * curveP cfg sum - cfg.cd.toInt * curveQ sum)

/-- `num` of R124. -/
def curveNum (cfg : Cfg) (sum : Nat) : Int :=
  65536 * (cfg.ca.toInt * (curveP cfg sum * curveP cfg sum) + cfg.cb.toInt * (curveP cfg sum * curveQ sum)
    + cfg.cc.toInt * (curveQ sum * curveQ sum))

/-- The curve is defined: `SUM != 0` and `den != 0` (R124); otherwise R126 applies. -/
def curveDefined (cfg : Cfg) (sum : Nat) : Bool := decide (sum ≠ 0) && decide (curveDen cfg sum ≠ 0)

/-- `tconv(SUM)` where the curve is defined (R124). -/
def tconv (cfg : Cfg) (sum : Nat) : Int :=
  sat (cfg.offset.toInt + fdiv (curveNum cfg sum) (curveDen cfg sum))

/-- `TSAMPLE` (R121). -/
def execTsample (s : State) : Host.Outcome State Fault Refusal :=
  .next (respondOk 0#48 0#48 (sampleWrite s.adc s))

/-- `TEMPRD` (R125); at a singular point of the curve `r0` is a free value and `r1` is still the mean (R126). -/
def execTemprd (s : State) : Host.Outcome State Fault Refusal :=
  let mean := fxResult (meanQ16 s.cfg (bufSum s.buf))
  if curveDefined s.cfg (bufSum s.buf) then
    .next (respondOk (fxResult (tconv s.cfg (bufSum s.buf))) mean s)
  else
    .next (respondOk (Config.freeCurve s.curveDraws) mean s.drawCurve)

end Sys2Proof.Machine
end

