-- ==== Sys2Proof/Machine/Events.lean ====
section
/-! DEFINITION. The four events (60_exceptions.md rules R190 to R193): atomic operations without a response. -/

namespace Sys2Proof.Machine

/-- `EV_TEMP` (R190): a sample in `EVENT` mode, and the flag in both modes. -/
def execEvTemp (s : State) : Host.Outcome State Fault Refusal :=
  match s.cfg.sampleMode with
  | .event => .next (noResponse (raiseFlags tempDue (sampleWrite s.adc s)))
  | .polled => .next (noResponse (raiseFlags tempDue s))

/-- `EV_RPM` (R191). -/
def execEvRpm (s : State) : Host.Outcome State Fault Refusal :=
  .next (noResponse (raiseFlags rpmDue s))

/-- `EV_PID` (R192). -/
def execEvPid (s : State) : Host.Outcome State Fault Refusal :=
  .next (noResponse (raiseFlags pidDue s))

/-- `EV_TACH` (R193): the poll of `TACHPOLL`, without a response. -/
def execEvTach (s : State) : Host.Outcome State Fault Refusal :=
  .next (noResponse (pollAll s))

end Sys2Proof.Machine
end

