-- ==== Sys2Proof/Machine/Pid.lean ====
section
/-! DEFINITION. The PIDController (43_pid.md rules R150 to R153): the control law on exact integers with one floor per
named quantity, and the commands `PIDUPD` and `PIDRD`. -/

namespace Sys2Proof.Machine

/-- `E = sat(M - cfg.SP)` (R150). -/
def pidError (cfg : Cfg) (m : Int) : Int := sat (m - cfg.sp.toInt)

/-- `IMAX` (R151). -/
def pidImax (cfg : Cfg) : Int :=
  if cfg.ki.toInt = 0 then fxMax else sat (fdiv 214748364800 cfg.ki.toInt)

/-- `LB`, the integral's lower bound (R151). -/
def pidLowerBound (cfg : Cfg) : Int := sat (-pidImax cfg)

/-- `Inew` from `INTEG`, `E` and `el` (R150). -/
def pidIntegral (cfg : Cfg) (integ e : Int) (el : Nat) : Int :=
  sat (max (integ + fdiv (e * el) cfg.tickHz) (pidLowerBound cfg))

/-- `Pterm` (R150). -/
def pidProportional (cfg : Cfg) (e : Int) : Int := fdiv (cfg.kp.toInt * e) 65536

/-- `Dterm`: no derivative when no tick has passed (R150). -/
def pidDerivative (cfg : Cfg) (de : Int) (el : Nat) : Int :=
  if 0 < el then fdiv (cfg.kd.toInt * de * cfg.tickHz) (65536 * el) else 0

/-- `Iterm` from the new integral (R150). -/
def pidIntegralTerm (cfg : Cfg) (inew : Int) : Int := fdiv (cfg.ki.toInt * inew) 65536

/-- `OUT = clamp(3276800 + Pterm + Iterm + Dterm, 0, 6553600)` (R150). -/
def pidOutput (p i d : Int) : Int := clamp (3276800 + p + i + d) 0 6553600

/-- `pidUpdate(M, now)` (R150): the new state, and `OUT` in its `LOUT`. -/
def pidUpdate (m : Int) (s : State) : State :=
  let e := pidError s.cfg m
  let el := (elapsedSince s.ltime s.now).toNat
  let inew := pidIntegral s.cfg s.integ.toInt e el
  let out := pidOutput (pidProportional s.cfg e) (pidIntegralTerm s.cfg inew)
    (pidDerivative s.cfg (e - s.lerr.toInt) el)
  s.setPid (toFx inew) (toFx e) s.now (toFx out)

/-- `PIDUPD measured` (R152): `r0` is the output just stored. -/
def execPidupd (measured : Fx) (s : State) : Host.Outcome State Fault Refusal :=
  .next (respondOk (pidUpdate (fxOperand measured) s).lout 0#48 (pidUpdate (fxOperand measured) s))

/-- `PIDRD` (R153). -/
def execPidrd (s : State) : Host.Outcome State Fault Refusal :=
  .next (respondOk s.lout s.integ s)

end Sys2Proof.Machine
end

