-- ==== Sys2Proof/Machine/System.lean ====
section
/-! DEFINITION. The system commands `NOP`, `FLAGRD` and `FLAGCLR` (45_system.md rules R175 to R177). -/

namespace Sys2Proof.Machine

/-- `NOP` (R175). -/
def execNop (s : State) : Host.Outcome State Fault Refusal :=
  .next (respondOk 0#48 0#48 s)

/-- `FLAGRD` (R176). -/
def execFlagrd (s : State) : Host.Outcome State Fault Refusal :=
  .next (respondOk (zext48 s.flags) 0#48 s)

/-- `FLAGCLR mask` (R177). -/
def execFlagclr (mask : FlagSet) (s : State) : Host.Outcome State Fault Refusal :=
  let new := clearedFlags s.flags mask
  .next (respondOk (zext48 s.flags) (zext48 new) (s.setFlags new))

end Sys2Proof.Machine
end

