-- ==== Sys2Proof/Syntax.lean ====
section
/-! DEFINITION. The operations of the WCC: the 14 commands of rule R85 and the 4 events of rule R83
(30_encoding.md), one constructor per row of the opcode table; the formats of R81. -/

namespace Sys2Proof

/-- The operations. A command's operands are those of R84; an event has none (R83). -/
inductive Instr where
  /-- `NOP` (R175) -/
  | nop
  /-- `ELAPSED reference` (R112) -/
  | elapsed (reference : Tick)
  /-- `DUETIME lastDeadline, period` (R113) -/
  | duetime (lastDeadline : Tick) (period : Duration)
  /-- `TSAMPLE` (R121) -/
  | tsample
  /-- `TEMPRD` (R125) -/
  | temprd
  /-- `TACHPOLL` (R137) -/
  | tachpoll
  /-- `RPMWIN` (R139) -/
  | rpmwin
  /-- `RPMRD ch` (R140) -/
  | rpmrd (ch : ChannelIndex)
  /-- `PIDUPD measured` (R152) -/
  | pidupd (measured : Fx)
  /-- `PIDRD` (R153) -/
  | pidrd
  /-- `APPLY duty` (R166) -/
  | applyDuty (duty : Fx)
  /-- `APPLYCH ch, duty` (R167) -/
  | applyCh (ch : ChannelIndex) (duty : Fx)
  /-- `FLAGRD` (R176) -/
  | flagrd
  /-- `FLAGCLR mask` (R177) -/
  | flagclr (mask : FlagSet)
  /-- event `EV_TEMP`, `ev[0]` (R190) -/
  | evTemp
  /-- event `EV_RPM`, `ev[1]` (R191) -/
  | evRpm
  /-- event `EV_PID`, `ev[2]` (R192) -/
  | evPid
  /-- event `EV_TACH`, `ev[3]` (R193) -/
  | evTach
  deriving DecidableEq, Repr

/-- Whether the operation is an event; the others are commands (R18). -/
def Instr.isEvent : Instr → Bool
  | .nop | .elapsed _ | .duetime _ _ | .tsample | .temprd | .tachpoll | .rpmwin | .rpmrd _ => false
  | .pidupd _ | .pidrd | .applyDuty _ | .applyCh _ _ | .flagrd | .flagclr _ => false
  | .evTemp | .evRpm | .evPid | .evTach => true

/-- The seven command formats of R81. -/
inductive Format where
  | z | c | t | tt | x | cx | m
  deriving DecidableEq, Repr

/-- An operation as the WCC's ports carry it: a command word on `cmd`, or a one-bit event vector on `ev`. -/
inductive Encoded where
  | command (w : CommandWord)
  | event (v : EventVector)
  deriving DecidableEq, Repr

end Sys2Proof
end

