-- ==== Sys2Proof/Machine/Dispatch.lean ====
section
/-! DEFINITION. One arm per operation of the opcode table. -/

namespace Sys2Proof.Machine

def exec (i : Instr) (s : State) : Host.Outcome State Fault Refusal :=
  match i with
  | .nop => Sys2Proof.Machine.execNop s
  | .elapsed reference => Sys2Proof.Machine.execElapsed reference s
  | .duetime lastDeadline period => Sys2Proof.Machine.execDuetime lastDeadline period s
  | .tsample => Sys2Proof.Machine.execTsample s
  | .temprd => Sys2Proof.Machine.execTemprd s
  | .tachpoll => Sys2Proof.Machine.execTachpoll s
  | .rpmwin => Sys2Proof.Machine.execRpmwin s
  | .rpmrd ch => Sys2Proof.Machine.execRpmrd ch s
  | .pidupd measured => Sys2Proof.Machine.execPidupd measured s
  | .pidrd => Sys2Proof.Machine.execPidrd s
  | .applyDuty duty => Sys2Proof.Machine.execApplyDuty duty s
  | .applyCh ch duty => Sys2Proof.Machine.execApplyCh ch duty s
  | .flagrd => Sys2Proof.Machine.execFlagrd s
  | .flagclr mask => Sys2Proof.Machine.execFlagclr mask s
  | .evTemp => Sys2Proof.Machine.execEvTemp s
  | .evRpm => Sys2Proof.Machine.execEvRpm s
  | .evPid => Sys2Proof.Machine.execEvPid s
  | .evTach => Sys2Proof.Machine.execEvTach s

end Sys2Proof.Machine
end

