-- ==== Sys2Proof/WellFormed.lean ====
section
/-! DEFINITION. The value conditions of rule R85 (30_encoding.md): which channel indices an instruction may carry
under a configuration (R62, R84, R88 (c)). -/

namespace Sys2Proof

/-- The value condition of R85: `ch < cfg.N` for `RPMRD`, `ch < 3` for `APPLYCH`, none for the others. -/
def Instr.wellFormed (cfg : Cfg) : Instr → Bool
  | .rpmrd ch => decide (ch.toNat < cfg.n)
  | .applyCh ch _ => decide (ch.toNat < 3)
  | .nop | .elapsed _ | .duetime _ _ | .tsample | .temprd | .tachpoll | .rpmwin => true
  | .pidupd _ | .pidrd | .applyDuty _ | .flagrd | .flagclr _ => true
  | .evTemp | .evRpm | .evPid | .evTach => true

end Sys2Proof
end

