-- ==== Sys2Proof/Decode.lean ====
section
/-! DEFINITION. The decoder of command words and of the event vector (30_encoding.md rules R80 to R88), total,
rejecting by name; then the encoder, written from the same tables; then the mask and match columns of R85. -/

namespace Sys2Proof

/-- Why a command word is illegal (R88). The hardware answers `ERR` for each alike and reports no cause (R187);
the names are the model's. -/
inductive Illegal where
  /-- R88 (a): `op` is not listed in R85. -/
  | reservedOpcode
  /-- R88 (b): a non-zero bit in a must-be-zero field of R86. -/
  | nonZeroField
  /-- R88 (c): the value condition of R85 fails. -/
  | channelOutOfRange
  deriving DecidableEq, Repr

/-- `op`, bits 7:0 (R80). -/
def opOf (w : CommandWord) : BitVec 8 := w.extractLsb' 0 8

/-- `ch`, bits 11:8 (R80). -/
def chOf (w : CommandWord) : ChannelIndex := w.extractLsb' 8 4

/-- `rsv`, bits 15:12 (R80). -/
def rsvOf (w : CommandWord) : BitVec 4 := w.extractLsb' 12 4

/-- `a`, bits 63:16 (R80). -/
def aOf (w : CommandWord) : BitVec 48 := w.extractLsb' 16 48

/-- `b`, bits 95:64 (R80). -/
def bOf (w : CommandWord) : BitVec 32 := w.extractLsb' 64 32

/-- `a[31:0]` as a Tick (R84). -/
def tickOf (w : CommandWord) : Tick := (aOf w).extractLsb' 0 32

/-- `a[2:0]` as a flag mask (R84). -/
def maskOf (w : CommandWord) : FlagSet := (aOf w).extractLsb' 0 3

/-- Whether the format uses `ch` (R81). -/
def Format.usesCh : Format → Bool
  | .c | .cx => true
  | .z | .t | .tt | .x | .m => false

/-- Whether the format uses `b` (R81). -/
def Format.usesB : Format → Bool
  | .tt => true
  | .z | .c | .t | .x | .cx | .m => false

/-- The bits of `a` the format uses (R81). -/
def Format.aBits : Format → BitVec 48
  | .z | .c => 0#48
  | .t | .tt => 0x0000FFFFFFFF#48
  | .x | .cx => 0xFFFFFFFFFFFF#48
  | .m => 7#48

/-- The must-be-zero fields of R86 are zero. -/
def fieldsLegal (f : Format) (w : CommandWord) : Bool :=
  rsvOf w == 0#4 && (f.usesCh || chOf w == 0#4) && (aOf w &&& ~~~f.aBits == 0#48) && (f.usesB || bOf w == 0#32)

/-- The instruction, if the word's must-be-zero fields are zero (R88 (b)). -/
def checkFields (f : Format) (w : CommandWord) (i : Instr) : Except Illegal Instr :=
  if fieldsLegal f w then .ok i else .error .nonZeroField

/-- A command word by its opcode and must-be-zero fields alone (R85 to R87), before the value condition. -/
def decodeWord (w : CommandWord) : Except Illegal Instr :=
  match (opOf w).toNat with
  | 0x00 => checkFields .z w .nop
  | 0x10 => checkFields .t w (.elapsed (tickOf w))
  | 0x11 => checkFields .tt w (.duetime (tickOf w) (bOf w))
  | 0x20 => checkFields .z w .tsample
  | 0x21 => checkFields .z w .temprd
  | 0x30 => checkFields .z w .tachpoll
  | 0x31 => checkFields .z w .rpmwin
  | 0x32 => checkFields .c w (.rpmrd (chOf w))
  | 0x40 => checkFields .x w (.pidupd (aOf w))
  | 0x41 => checkFields .z w .pidrd
  | 0x50 => checkFields .x w (.applyDuty (aOf w))
  | 0x51 => checkFields .cx w (.applyCh (chOf w) (aOf w))
  | 0x60 => checkFields .z w .flagrd
  | 0x61 => checkFields .m w (.flagclr (maskOf w))
  | _ => .error .reservedOpcode

/-- The value condition of R85 (R88 (c)). -/
def checkChannel (cfg : Cfg) (i : Instr) : Except Illegal Instr :=
  if i.wellFormed cfg then .ok i else .error .channelOutOfRange

/-- The decoder of R88: every 96-bit word is one of the 14 commands with its operands, or illegal by name. -/
def decode (cfg : Cfg) (w : CommandWord) : Except Illegal Instr :=
  match decodeWord w with
  | .ok i => checkChannel cfg i
  | .error r => .error r

/-- The event of the lowest set bit of an event vector, with that bit (R83); none when no bit is set. That the lowest
bit goes first is the model's choice among the orders R195 allows (log 5). -/
def firstEvent (v : EventVector) : Option (Instr × EventVector) :=
  if v.getLsbD 0 then some (.evTemp, 0b0001#4)
  else if v.getLsbD 1 then some (.evRpm, 0b0010#4)
  else if v.getLsbD 2 then some (.evPid, 0b0100#4)
  else if v.getLsbD 3 then some (.evTach, 0b1000#4)
  else none

/-- The instruction read from a row of the opcode table: `nbits` is 96 for a command word and at most 8 (one byte)
for the 4-bit event port (log 8). -/
def decodeTableWord (nbits w : Nat) : Option Instr :=
  if nbits ≤ 8 then
    if w < 16 then (firstEvent (BitVec.ofNat 4 w)).map Prod.fst else none
  else if w < 79228162514264337593543950336 then
    match decodeWord (BitVec.ofNat 96 w) with
    | .ok i => some i
    | .error _ => none
  else none

/-- The fields of R80 put together, `rsv` zero: `op | ch << 8 | a << 16 | b << 64`. -/
def packWord (b : BitVec 32) (a : BitVec 48) (ch : ChannelIndex) (op : BitVec 8) : CommandWord :=
  op.setWidth 96 ||| ch.setWidth 96 <<< 8 ||| a.setWidth 96 <<< 16 ||| b.setWidth 96 <<< 64

/-- A Tick in the `a` field (R84): `a[47:32]` is zero. -/
def packTick (t : Tick) : BitVec 48 := t.setWidth 48

/-- The encoder (R81, R83, R85). -/
def encode : Instr → Encoded
  | .nop => .command (packWord 0#32 0#48 0#4 0x00#8)
  | .elapsed r => .command (packWord 0#32 (packTick r) 0#4 0x10#8)
  | .duetime l p => .command (packWord p (packTick l) 0#4 0x11#8)
  | .tsample => .command (packWord 0#32 0#48 0#4 0x20#8)
  | .temprd => .command (packWord 0#32 0#48 0#4 0x21#8)
  | .tachpoll => .command (packWord 0#32 0#48 0#4 0x30#8)
  | .rpmwin => .command (packWord 0#32 0#48 0#4 0x31#8)
  | .rpmrd ch => .command (packWord 0#32 0#48 ch 0x32#8)
  | .pidupd m => .command (packWord 0#32 m 0#4 0x40#8)
  | .pidrd => .command (packWord 0#32 0#48 0#4 0x41#8)
  | .applyDuty d => .command (packWord 0#32 d 0#4 0x50#8)
  | .applyCh ch d => .command (packWord 0#32 d ch 0x51#8)
  | .flagrd => .command (packWord 0#32 0#48 0#4 0x60#8)
  | .flagclr m => .command (packWord 0#32 (m.setWidth 48) 0#4 0x61#8)
  | .evTemp => .event 0b0001#4
  | .evRpm => .event 0b0010#4
  | .evPid => .event 0b0100#4
  | .evTach => .event 0b1000#4

/-- The decoder at either port. -/
def decodeEncoded (cfg : Cfg) : Encoded → Option Instr
  | .command w =>
    match decode cfg w with
    | .ok i => some i
    | .error _ => none
  | .event v => (firstEvent v).map Prod.fst

/-- The `mask` column of R85, and for an event its bit of `ev` (R83). -/
def Instr.tableMask : Instr → Encoded
  | .nop | .tsample | .temprd | .tachpoll | .rpmwin | .pidrd | .flagrd => .command 0xFFFFFFFFFFFFFFFFFFFFFFFF#96
  | .elapsed _ => .command 0xFFFFFFFFFFFF00000000FFFF#96
  | .duetime _ _ => .command 0x00000000FFFF00000000FFFF#96
  | .rpmrd _ => .command 0xFFFFFFFFFFFFFFFFFFFFF0FF#96
  | .pidupd _ | .applyDuty _ => .command 0xFFFFFFFF000000000000FFFF#96
  | .applyCh _ _ => .command 0xFFFFFFFF000000000000F0FF#96
  | .flagclr _ => .command 0xFFFFFFFFFFFFFFFFFFF8FFFF#96
  | .evTemp => .event 0x1#4
  | .evRpm => .event 0x2#4
  | .evPid => .event 0x4#4
  | .evTach => .event 0x8#4

/-- The `match` column of R85, and for an event its bit of `ev` (R83). -/
def Instr.tableMatch : Instr → Encoded
  | .nop => .command 0x000000000000000000000000#96
  | .elapsed _ => .command 0x000000000000000000000010#96
  | .duetime _ _ => .command 0x000000000000000000000011#96
  | .tsample => .command 0x000000000000000000000020#96
  | .temprd => .command 0x000000000000000000000021#96
  | .tachpoll => .command 0x000000000000000000000030#96
  | .rpmwin => .command 0x000000000000000000000031#96
  | .rpmrd _ => .command 0x000000000000000000000032#96
  | .pidupd _ => .command 0x000000000000000000000040#96
  | .pidrd => .command 0x000000000000000000000041#96
  | .applyDuty _ => .command 0x000000000000000000000050#96
  | .applyCh _ _ => .command 0x000000000000000000000051#96
  | .flagrd => .command 0x000000000000000000000060#96
  | .flagclr _ => .command 0x000000000000000000000061#96
  | .evTemp => .event 0x1#4
  | .evRpm => .event 0x2#4
  | .evPid => .event 0x4#4
  | .evTach => .event 0x8#4

/-- `(w AND mask) = match` (R85), for a command word or an event vector. -/
def Instr.tableRowMatches (i : Instr) (e : Encoded) : Bool :=
  match e, i.tableMask, i.tableMatch with
  | .command w, .command k, .command m => w &&& k == m
  | .event v, .event k, .event m => v &&& k == m
  | _, _, _ => false

end Sys2Proof
end

