-- ==== Sys2Proof/Machine/Fetch.lean ====
section
/-! DEFINITION. Which operation comes next and how it leaves the ports (60_exceptions.md rule R196, 70_reset_and_hazards.md
rule R219, 30_encoding.md rule R89). There is no program counter and no fetch from memory (R31, R73): the operation is
what the ports carry. -/

namespace Sys2Proof.Machine

/-- The operation that takes effect next. -/
inductive Pending where
  /-- `rst` is asserted (R215). -/
  | reset
  /-- A legal command (R85). -/
  | command (i : Instr)
  /-- An illegal command word (R88). -/
  | illegal (r : Illegal)
  /-- An event, with its bit of `ev` (R83). -/
  | event (i : Instr) (bit : EventVector)
  /-- Nothing is presented. -/
  | idle
  deriving DecidableEq, Repr

/-- The order of R196 and R219: reset before all else; a command before the events presented with it; then an event. -/
def pendingOf (cfg : Cfg) (p : Ports) : Pending :=
  if p.rst then .reset
  else
    match p.cmd with
    | some w =>
      match decode cfg w with
      | .ok i => .command i
      | .error r => .illegal r
    | none =>
      match firstEvent p.ev with
      | some (i, b) => .event i b
      | none => .idle

/-- The ports after the operation, given what is left on them: what is left takes effect next with the same data ports;
when nothing is left the environment's next presentation comes (R89, R194). -/
def leavePorts (left : Ports) (s : State) : State :=
  s.setInbox (if left.isIdle then s.inbox.tail else left :: s.inbox.tail)
    (if s.inbox.isEmpty then s.inputDraws + 1 else s.inputDraws)

/-- The command has its response; the events presented with it are left (R196). -/
def retireCommand (s : State) : State := leavePorts { s.input with cmd := none } s

/-- The event has taken effect; the other events presented with it are left (R194). -/
def retireEvent (bit : EventVector) (s : State) : State := leavePorts { s.input with ev := s.input.ev &&& ~~~bit } s

/-- The whole presentation is gone: reset abandons the command and discards the events presented with it (R219). -/
def retireAll (s : State) : State := leavePorts Ports.quiet s

/-- The presentation that carries the row's word alone: a command of 96 bits, or the 4-bit event vector (log 8). -/
def presentWord (nbits w : Nat) (p : Ports) : Ports :=
  if nbits ≤ 8 then { p with rst := false, cmd := none, ev := BitVec.ofNat 4 w }
  else { p with rst := false, cmd := some (BitVec.ofNat 96 w), ev := 0#4 }

/-- The state update after an outcome. -/
def onNext (f : State → State) : Host.Outcome State Fault Refusal → Host.Outcome State Fault Refusal
  | .next t => .next (f t)
  | .fault r => .fault r
  | .refused r => .refused r

end Sys2Proof.Machine
end

