-- ==== Sys2Proof/Machine/Step.lean ====
section
/-! DEFINITION. One step: the next operation of the total order (20_memory.md rule R68), atomic as a whole (R66). -/

namespace Sys2Proof.Machine

/-- One operation. A configuration outside the spec is refused before anything runs (U3). -/
def step (s : State) : Host.Outcome State Fault Refusal :=
  if s.cfg.wf then
    match pendingOf s.cfg s.input with
    | .reset => .next (retireAll (resetOp s))
    | .command i => onNext retireCommand (exec i s)
    | .illegal _ => .next (retireCommand (respondErr s))
    | .event i b => onNext (retireEvent b) (exec i s)
    | .idle => .next (retireAll (noResponse s))
  else .refused .configOutsideSpec

/-- The instruction of the opcode table presented at the ports, so that the very next step runs it (log 8). The data ports
keep what the schedule gives them, or read 0 where nothing is scheduled. -/
def State.withFetchWord (s : State) (nbits w : Nat) : State :=
  s.setInbox (presentWord nbits w (s.inbox.headD Ports.quiet) :: s.inbox.tail) s.inputDraws

end Sys2Proof.Machine
end

