-- ==== Sys2Proof/Machine/Pseudo.lean ====
section
/-! DEFINITION. The host's side, as far as the spec gives it: the pseudo-instructions of rule R91 (30_encoding.md) and the
conditional steps of the reference host loop of rule R225 (70_reset_and_hazards.md). The machine uses none of it: the loop
is the host's (R5), and events may fall between any two of its commands (R91). -/

namespace Sys2Proof.Machine

/-- A command of a host sequence; `%r0` is the `r0` of the most recent response (R90). -/
inductive HostCommand where
  | fixed (i : Instr)
  /-- `PIDUPD %r0` -/
  | pidupdR0
  /-- `APPLY %r0` -/
  | applyR0
  deriving DecidableEq, Repr

/-- The command the WCC sees, after the host's substitution (R90). -/
def HostCommand.resolve (last : Response) : HostCommand → Instr
  | .fixed i => i
  | .pidupdR0 => .pidupd last.r0
  | .applyR0 => .applyDuty last.r0

/-- The pseudo-instructions of R91. -/
inductive Pseudo where
  | clrtemp | clrrpm | clrpid | ctrlstep | tempsvc | rpmsvc | report
  deriving DecidableEq, Repr

/-- The expansion column of R91. -/
def Pseudo.expand (cfg : Cfg) : Pseudo → List HostCommand
  | .clrtemp => [.fixed (.flagclr 0b001#3)]
  | .clrrpm => [.fixed (.flagclr 0b010#3)]
  | .clrpid => [.fixed (.flagclr 0b100#3)]
  | .ctrlstep => [.fixed .temprd, .pidupdR0, .applyR0, .fixed (.flagclr 0b100#3)]
  | .tempsvc =>
    match cfg.sampleMode with
    | .event => [.fixed (.flagclr 0b001#3)]
    | .polled => [.fixed .tsample, .fixed (.flagclr 0b001#3)]
  | .rpmsvc => [.fixed .rpmwin, .fixed (.flagclr 0b010#3)]
  | .report => .fixed .temprd :: (List.range cfg.n).map fun i => .fixed (.rpmrd (BitVec.ofNat 4 i))

/-- The five steps of the reference host loop (R225). -/
inductive LoopStep where
  | report | poll | control | temperature | rpm
  deriving DecidableEq, Repr

/-- The command a step of the loop begins with (R225); `deadline` and `period` are the host's. -/
def LoopStep.ask (deadline : Tick) (period : Duration) : LoopStep → Instr
  | .report => .duetime deadline period
  | .poll => .tachpoll
  | .control | .temperature | .rpm => .flagrd

/-- The commands a step goes on with, given the response to its first (R225). -/
def LoopStep.act (cfg : Cfg) (r : Response) : LoopStep → List HostCommand
  | .report => if r.r0 = 1#48 then Pseudo.expand cfg .report else []
  | .poll => []
  | .control => if r.r0.getLsbD 2 then Pseudo.expand cfg .ctrlstep else []
  | .temperature => if r.r0.getLsbD 0 then Pseudo.expand cfg .tempsvc else []
  | .rpm => if r.r0.getLsbD 1 then Pseudo.expand cfg .rpmsvc else []

/-- The host's deadline after step 1: `r1` when the deadline fired (R225). -/
def LoopStep.nextDeadline (deadline : Tick) (r : Response) : Tick :=
  if r.r0 = 1#48 then r.r1.setWidth 32 else deadline

/-- A host sequence: each command sees the response of the one before it, `last` being the response before the first (R89,
R90). DESIGN CHOICE (log 13): no event falls between its commands, where R91 lets any fall; and all its commands sample the
same ports, `s.input` of the first state, and the schedule `inbox` does not move, where U11 (R200) has the environment draw the
inputs anew at every operation. A sequence under other inputs or with events between is a list of presentations for `step`
(log 1). -/
def runHost : List HostCommand → Response → State → Host.Outcome State Fault Refusal
  | [], _, s => .next s
  | c :: cs, last, s =>
    match exec (c.resolve last) s with
    | .next t => runHost cs (t.rsp.getD last) t
    | .fault r => .fault r
    | .refused r => .refused r

end Sys2Proof.Machine
end

