-- ==== Sys2Proof/Safety.lean ====
section
/-! DEFINITION. What claims speak of: the invariant of rule R48 (10_state.md), the calibration precondition of rule R127
(41_temperature.md), and the outcome every operation has (60_exceptions.md rule R186). -/

namespace Sys2Proof.Machine

/-- The invariants of R48, with the shape of the files R33 and R35 to R38 give and the constraints of R46. `FLAGS < 8`,
`BUF[k] < 2^16` and `FX_MIN ≤ INTEG ≤ FX_MAX` hold by the widths of the fields. R48 gives `INTEG ≥ LB` after the first
`PIDUPD`; with `KI ≥ 0` it holds from reset on, and that is the clause here. -/
structure State.Inv (s : State) : Prop where
  cfg_wf : s.cfg.wf = true
  buf_wf : Memory.wf s.cfg.cap s.buf = true
  widx_lt : s.widx.toNat < s.cfg.cap
  fans_length : s.fans.length = s.cfg.n
  integ_ge : 0 ≤ s.cfg.ki.toInt → pidLowerBound s.cfg ≤ s.integ.toInt
  lout_range : 0 ≤ s.lout.toInt ∧ s.lout.toInt ≤ 6553600
  duty_range : ∀ c : Fin 3, (s.cfg.floor.get c).toInt ≤ (s.duty.get c).toInt ∧ (s.duty.get c).toInt ≤ 6553600

/-- The calibration precondition at the present contents of the buffer (R127): no divisor of the curve is zero. -/
abbrev State.Calibrated (s : State) : Prop := curveDefined s.cfg (bufSum s.buf) = true

/-- The operation completes: a next state, never a fault and never a refusal (R186). -/
abbrev Completes (o : Host.Outcome State Fault Refusal) : Prop := ∃ t, o = .next t

/-- The state elements of R47's table, with the configuration, agree: what the WCC itself holds. -/
structure SameCore (s t : State) : Prop where
  cfg : t.cfg = s.cfg
  flags : t.flags = s.flags
  buf : t.buf = s.buf
  widx : t.widx = s.widx
  fans : t.fans = s.fans
  integ : t.integ = s.integ
  lerr : t.lerr = s.lerr
  ltime : t.ltime = s.ltime
  lout : t.lout = s.lout
  duty : t.duty = s.duty

/-- `OK(r0, r1)` on the response port (R82). -/
abbrev okRsp (r0 r1 : Result) : Option Response := some { status := .ok, r0 := r0, r1 := r1 }

/-- `ERR` on the response port: both results 0 (R82, R88). -/
abbrev errRsp : Option Response := some { status := .err, r0 := 0#48, r1 := 0#48 }

end Sys2Proof.Machine
end

