-- ==== Sys2Proof/Certificates/Slice0/Obligations.lean ====
section
/-! DEFINITION. The statements for the provers. Each docstring names the rule of spec/ it rests on; each is about the
machine, for all states and operands. Arithmetic is written out in Nat, Int or ℚ here, not with the model's functions,
except where the statement is about such a function. -/

open Sys2Proof Sys2Proof.Machine

/-- The opcodes of R85. -/
def Sys2Proof.listedOpcodes : List Nat :=
  [0x00, 0x10, 0x11, 0x20, 0x21, 0x30, 0x31, 0x32, 0x40, 0x41, 0x50, 0x51, 0x60, 0x61]

/-- R88 spelled out on the bits of the word: (a) a reserved opcode, or (b) a non-zero bit in a must-be-zero field of R86, or
(c) a channel out of range. -/
abbrev Sys2Proof.IllegalWord (cfg : Cfg) (w : CommandWord) : Prop :=
  (w.extractLsb' 0 8).toNat ∉ listedOpcodes ∨
  w.extractLsb' 12 4 ≠ 0#4 ∨
  ((w.extractLsb' 0 8).toNat ∉ [0x32, 0x51] ∧ w.extractLsb' 8 4 ≠ 0#4) ∨
  ((w.extractLsb' 0 8).toNat ∈ [0x00, 0x20, 0x21, 0x30, 0x31, 0x32, 0x41, 0x60] ∧ w.extractLsb' 16 48 ≠ 0#48) ∨
  ((w.extractLsb' 0 8).toNat ∈ [0x10, 0x11] ∧ w.extractLsb' 48 16 ≠ 0#16) ∨
  ((w.extractLsb' 0 8).toNat = 0x61 ∧ w.extractLsb' 19 45 ≠ 0#45) ∨
  ((w.extractLsb' 0 8).toNat ≠ 0x11 ∧ w.extractLsb' 64 32 ≠ 0#32) ∨
  ((w.extractLsb' 0 8).toNat = 0x32 ∧ cfg.n ≤ (w.extractLsb' 8 4).toNat) ∨
  ((w.extractLsb' 0 8).toNat = 0x51 ∧ 3 ≤ (w.extractLsb' 8 4).toNat)

/-- What R136 makes of the channels `fs`, given `now` and the levels: each channel on its own. -/
def Sys2Proof.PolledChannels (cfg : Cfg) (p : Ports) (fs gs : List FanChannel) : Prop :=
  gs.length = fs.length ∧
  ∀ (i : Nat) (f : FanChannel), fs[i]? = some f → ∃ g, gs[i]? = some g ∧ g.rpm = f.rpm ∧
    let cur : Level := if p.tachLevel.getLsbD i then .high else .low
    let elapsed := (p.tick.toNat + 2 ^ 32 - f.ltt.toNat) % 2 ^ 32
    (cur ≠ f.lvl ∧ cfg.debTicks < elapsed → g.lvl = cur ∧ g.ltt = p.tick ∧
      (cur = cfg.riseLevel → g.pcnt.toNat = (f.pcnt.toNat + 1) % 2 ^ 32) ∧ (cur ≠ cfg.riseLevel → g.pcnt = f.pcnt)) ∧
    (¬ (cur ≠ f.lvl ∧ cfg.debTicks < elapsed) → g = f)

/-! ### Encoding -/

/-- Words of 95_test_vectors.md (V19 to V29, V20a to V20i) read as the commands they stand for, or as illegal. -/
def Obligations.WordsOfTheSpecDecode : Prop :=
  decode cfgRef 0x000000000000000000000000#96 = .ok .nop ∧
  decode cfgRef 0x000000000000FFFFFFF00010#96 = .ok (.elapsed 0xFFFFFFF0#32) ∧
  decode cfgRef 0x000002000000FFFFFF000011#96 = .ok (.duetime 0xFFFFFF00#32 0x200#32) ∧
  decode cfgRef 0x000000000000000000000B32#96 = .ok (.rpmrd 11#4) ∧
  decode cfgRef 0x00000000FFFFFFFB00000040#96 = .ok (.pidupd 0xFFFFFFFB0000#48) ∧
  decode cfgRef 0x000000000000006400000251#96 = .ok (.applyCh 2#4 6553600#48) ∧
  decode cfgRef 0x000000000000000000070061#96 = .ok (.flagclr 0b111#3) ∧
  decode cfgRef 0x0000000000000000000000FF#96 = .error .reservedOpcode ∧
  decode cfgRef 0x000000000001000000000010#96 = .error .nonZeroField ∧
  decode cfgRef 0x000000000000000000000C32#96 = .error .channelOutOfRange

/-- Decoding an encoded instruction gives it back, for every instruction whose channel is legal (R81, R83, R84, R85). -/
def Obligations.DecodeOfEncodeIsTheInstruction : Prop :=
  ∀ (cfg : Cfg) (i : Instr), i.wellFormed cfg = true → decodeEncoded cfg (encode i) = some i

/-- A command word has one meaning: what decodes to an instruction is that instruction's encoding, bit for bit, and the
channel is legal (R85, R86). -/
def Obligations.EncodeOfDecodeIsTheWord : Prop :=
  ∀ (cfg : Cfg) (w : CommandWord) (i : Instr), decode cfg w = .ok i →
    encode i = .command w ∧ i.wellFormed cfg = true

/-- R85: a word encodes the command of a row exactly when `(w AND mask) = match` and the value condition holds; where
only the value condition fails it is illegal for its channel. -/
def Obligations.WordEncodesCommandWhenMaskMatches : Prop :=
  (∀ (w : CommandWord) (j : Instr), j.tableRowMatches (.command w) = true →
    ∃ i : Instr, i.tableMask = j.tableMask ∧ i.tableMatch = j.tableMatch ∧ encode i = .command w ∧
      ∀ cfg : Cfg, (i.wellFormed cfg = true → decode cfg w = .ok i) ∧
        (i.wellFormed cfg = false → decode cfg w = .error .channelOutOfRange)) ∧
  (∀ (cfg : Cfg) (w : CommandWord) (i : Instr), decode cfg w = .ok i →
    i.tableRowMatches (.command w) = true ∧ i.wellFormed cfg = true)

/-- R87: the 242 values of `op` that R85 does not list are reserved: such a word is no command; and no word but the all-zero
one is `NOP`. That the cause given is then the opcode, whatever the other bits, so that of several causes the opcode is looked at
first, is the model's choice (log 14): the hardware reports no cause (R187). -/
def Obligations.UnlistedOpcodesAreReserved : Prop :=
  (∀ (cfg : Cfg) (w : CommandWord), decode cfg w = .error .reservedOpcode ↔
    (w.extractLsb' 0 8).toNat ∉ Sys2Proof.listedOpcodes) ∧
  ((List.range 256).filter fun o => decodeWord (BitVec.ofNat 96 o) = .error .reservedOpcode).length = 242 ∧
  ∀ (cfg : Cfg) (w : CommandWord), decode cfg w = .ok .nop ↔ w = 0#96

/-- R83: each bit of the event vector is one event, and no bit set is no event. -/
def Obligations.EventBitsStandForTheirEvents : Prop :=
  firstEvent 0b0001#4 = some (.evTemp, 0b0001#4) ∧ firstEvent 0b0010#4 = some (.evRpm, 0b0010#4) ∧
  firstEvent 0b0100#4 = some (.evPid, 0b0100#4) ∧ firstEvent 0b1000#4 = some (.evTach, 0b1000#4) ∧
  ∀ v : EventVector, (firstEvent v = none ↔ v = 0#4) ∧
    ∀ (i : Instr) (b : EventVector), firstEvent v = some (i, b) → v &&& b = b ∧ firstEvent b = some (i, b)

/-- R82: the fields of the response word. -/
def Obligations.ResponseWordHoldsItsFields : Prop :=
  ∀ r : Response,
    (r.word.extractLsb' 0 1 = if r.status = .ok then 0#1 else 1#1) ∧ r.word.extractLsb' 1 7 = 0#7 ∧
    r.word.extractLsb' 8 48 = r.r0 ∧ r.word.extractLsb' 56 48 = r.r1

/-! ### A step -/

/-- R68, R89, R196: a step with a legal command presented runs that command and then takes it off the port; the events
presented with it are still to come, and with none the next presentation comes. That they are left on the port under the command's
own tick, levels and ADC code is the model's choice (log 5; R190 and R193 have an event sample when it takes effect), and the
schedule `inbox` with its count of free draws is the model's form (log 1). -/
def Obligations.StepRunsTheDecodedCommand : Prop :=
  ∀ (s t : State) (w : CommandWord) (i : Instr), s.cfg.wf = true → s.input.rst = false → s.input.cmd = some w →
    decode s.cfg w = .ok i → exec i s = .next t →
    step s = .next { t with
      inbox := if s.input.ev = 0#4 then s.inbox.tail else { s.input with cmd := none } :: s.inbox.tail
      inputDraws := if s.inbox = [] then s.inputDraws + 1 else s.inputDraws }

/-- R68, R194: a step with no reset and no command, but an event presented, runs the event and clears its bit. Which of several
goes first, one a step, and that the others are left under the same data ports, is the model's choice (log 5); the schedule `inbox`
with its count of free draws is the model's form (log 1). -/
def Obligations.StepRunsThePresentedEvent : Prop :=
  ∀ (s t : State) (i : Instr) (b : EventVector), s.cfg.wf = true → s.input.rst = false → s.input.cmd = none →
    firstEvent s.input.ev = some (i, b) → exec i s = .next t →
    step s = .next { t with
      inbox := if s.input.ev &&& ~~~b = 0#4 then s.inbox.tail
        else { s.input with ev := s.input.ev &&& ~~~b } :: s.inbox.tail
      inputDraws := if s.inbox = [] then s.inputDraws + 1 else s.inputDraws }

/-- R86, R88: an illegal command word, for whichever of the three causes, is answered `ERR` and changes no state element
and no output; and every other word is one of the 14 commands. -/
def Obligations.IllegalCommandAnswersErrAndChangesNothing : Prop :=
  (∀ (s : State) (w : CommandWord), s.cfg.wf = true → s.input.rst = false → s.input.cmd = some w →
    IllegalWord s.cfg w →
    ∃ t, step s = .next t ∧ t.rsp = errRsp ∧ SameCore s t ∧ t.curveDraws = s.curveDraws ∧
      ∀ c : Fin 3, t.pwmDuty c = s.pwmDuty c) ∧
  (∀ (cfg : Cfg) (w : CommandWord), ¬ IllegalWord cfg w → ∃ i, decode cfg w = .ok i ∧ i.isEvent = false)

/-- R186: under a legal configuration every step completes with a next state; and every command, from every state,
completes with a response, every event without one. -/
def Obligations.EveryOperationCompletes : Prop :=
  (∀ s : State, s.cfg.wf = true → ∃ t, step s = .next t) ∧
  ∀ (i : Instr) (s : State), ∃ t, exec i s = .next t ∧ (t.rsp = none ↔ i.isEvent = true)

/-- U3 (93_implementation_defined.md): a configuration that breaks R46 (1), (2) or (4) is refused before anything runs. That
the refusal is `step`'s is the model's form (log 9). -/
def Obligations.IllegalConfigurationIsRefused : Prop :=
  ∀ s : State, s.cfg.wf = false → step s = .refused .configOutsideSpec

/-- R196: events presented with a command take effect after it and before the next one: the command's step, legal or illegal, gives
the response and its effect alone, and the very next step is an event presented with it, run on what the command left. Which of
several events goes first, and that the event samples the data ports the command had, is the model's choice (log 5); the schedule
`inbox` is the model's form (log 1). -/
def Obligations.EventTakesEffectAfterTheCommand : Prop :=
  ∀ (s : State) (w : CommandWord), s.cfg.wf = true → s.input.rst = false → s.input.cmd = some w → s.input.ev ≠ 0#4 →
    ∃ (t v : State) (i : Instr) (b : EventVector),
      step s = .next t ∧ t.rsp ≠ none ∧
      (∀ c, decode s.cfg w = .ok c → ∃ a, exec c s = .next a ∧ SameCore a t ∧ t.rsp = a.rsp) ∧
      (∀ r, decode s.cfg w = .error r → SameCore s t ∧ t.rsp = errRsp) ∧
      t.input = { s.input with cmd := none } ∧ firstEvent s.input.ev = some (i, b) ∧
      exec i t = .next v ∧ v.rsp = none ∧
      step t = .next { v with
        inbox := if s.input.ev &&& ~~~b = 0#4 then s.inbox.tail
          else { s.input with cmd := none, ev := s.input.ev &&& ~~~b } :: s.inbox.tail }

/-- R196 (R177): a flag set is never undone by a `FLAGCLR` presented at the same time: whatever events are presented with the
`FLAGCLR`, once it and they have taken effect every flag an event sets is 1, and the others are as the clear left them; the response
of the `FLAGCLR` shows none of the events. That each event takes a step is the model's form (log 5). -/
def Obligations.FlagSetSurvivesSimultaneousClear : Prop :=
  ∀ (s : State) (w : CommandWord) (m : FlagSet), s.cfg.wf = true → s.input.rst = false →
    s.input.cmd = some w → decode s.cfg w = .ok (.flagclr m) →
    ∃ t u, step s = .next t ∧ t.rsp = okRsp (s.flags.setWidth 48) ((s.flags &&& ~~~m).setWidth 48) ∧
      core.run ((List.range 4).countP s.input.ev.getLsbD) t = .next u ∧ u.inbox = s.inbox.tail ∧
      ∀ k < 3, u.flags.getLsbD k = (s.input.ev.getLsbD k || (s.flags.getLsbD k && !m.getLsbD k))

/-- R194 (R190 to R193): of a set of events presented together each takes effect, once, and nothing else happens: each timer
event's flag is set, `EV_TEMP` writes one sample in `EVENT` mode and none in `POLLED` mode, `EV_TACH` polls every fan channel, what
belongs to no event presented is as it was, and no event has a response. That they take effect one a step and all sample the data
ports they were presented with is the model's choice (log 5); the schedule `inbox` with its count of free draws is its form (log 1). -/
def Obligations.PresentedEventsAllTakeEffect : Prop :=
  ∀ s : State, s.cfg.wf = true → s.input.rst = false → s.input.cmd = none → s.input.ev ≠ 0#4 →
    ∃ u, core.run ((List.range 4).countP s.input.ev.getLsbD) s = .next u ∧
      u.flags = s.flags ||| s.input.ev.setWidth 3 ∧
      (s.input.ev.getLsbD 0 = true → s.cfg.sampleMode = .event →
        u.buf = s.buf.set s.widx.toNat s.input.adcRaw ∧ u.widx.toNat = (s.widx.toNat + 1) % s.cfg.cap) ∧
      ((s.input.ev.getLsbD 0 = false ∨ s.cfg.sampleMode = .polled) → u.buf = s.buf ∧ u.widx = s.widx) ∧
      (s.input.ev.getLsbD 3 = true → PolledChannels s.cfg s.input s.fans u.fans) ∧
      (s.input.ev.getLsbD 3 = false → u.fans = s.fans) ∧
      u.integ = s.integ ∧ u.lerr = s.lerr ∧ u.ltime = s.ltime ∧ u.lout = s.lout ∧ u.duty = s.duty ∧ u.cfg = s.cfg ∧
      u.rsp = none ∧ u.curveDraws = s.curveDraws ∧ u.inbox = s.inbox.tail ∧
      u.inputDraws = if s.inbox = [] then s.inputDraws + 1 else s.inputDraws

/-- R195: the events commute: two of them in either order give the same state. -/
def Obligations.EventsCommute : Prop :=
  ∀ (i j : Instr) (s a b c d : State), i.isEvent = true → j.isEvent = true →
    exec i s = .next a → exec j a = .next b → exec j s = .next c → exec i c = .next d → b = d

/-! ### Reset -/

/-- R47: the table of the state after reset, for every configuration and every `now0`. -/
def Obligations.ResetStateIsTheTable : Prop :=
  ∀ (cfg : Cfg) (now0 : Tick), cfg.wf = true →
    let s := State.resetAt cfg now0
    s.cfg = cfg ∧ s.flags = 0#3 ∧ s.buf.length = cfg.cap ∧ (∀ k < cfg.cap, (bufRead s.buf k).toNat = cfg.prefill) ∧
    s.widx = 0#8 ∧ s.fans.length = cfg.n ∧
    (∀ i < cfg.n, ∃ f, s.fans[i]? = some f ∧ f.lvl = .low ∧ f.ltt = now0 ∧ f.pcnt = 0#32 ∧ f.rpm = 0#32) ∧
    s.integ.toInt = 0 ∧ s.lerr.toInt = 0 ∧ s.ltime = now0 ∧ s.lout.toInt = 3276800 ∧
    ∀ c : Fin 3, s.duty.get c = cfg.floor.get c

/-- R215, R216, R219: with `rst` asserted the step is a reset at the sampled tick, whatever command and events are
presented with it: they are gone afterwards, without a response and without effect. That the schedule `inbox` moves on by the whole
presentation is the model's form (logs 1 and 11). -/
def Obligations.ResetAbandonsCommandAndEvents : Prop :=
  ∀ s : State, s.cfg.wf = true → s.input.rst = true →
    ∃ t, step s = .next t ∧ SameCore (State.resetAt s.cfg s.input.tick) t ∧ t.rsp = none ∧ t.inbox = s.inbox.tail

/-- R48, at reset: the invariant holds after reset, for every legal configuration and every `now0`. -/
def Obligations.ResetMeetsTheInvariant : Prop :=
  (∀ (cfg : Cfg) (now0 : Tick), cfg.wf = true → (State.resetAt cfg now0).Inv) ∧ State.reset.Inv

/-- R48: the invariant is kept by every step. -/
def Obligations.EveryStepKeepsTheInvariant : Prop :=
  ∀ s t : State, s.Inv → step s = .next t → t.Inv

/-! ### Clock -/

/-- R110: the elapsed time is the difference modulo the counter's width, for every width. -/
def Obligations.ElapsedIsDifferenceModuloWidth : Prop :=
  ∀ (w : Nat) (reference now : BitVec w),
    ((elapsedSince reference now).toNat : Int) = ((now.toNat : Int) - reference.toNat) % 2 ^ w

/-- R114 (1): added to the reference, the elapsed time gives `now` back, modulo the counter's width. -/
def Obligations.ElapsedAddsBackToNow : Prop :=
  ∀ (w : Nat) (a b : BitVec w), ((elapsedSince a b).toNat + a.toNat) % 2 ^ w = b.toNat

/-- R112: `ELAPSED` answers the elapsed time and changes nothing. -/
def Obligations.ElapsedCommandResult : Prop :=
  ∀ (s : State) (reference : Tick), ∃ r0 : Result,
    exec (.elapsed reference) s = .next { s with rsp := okRsp r0 0#48 } ∧
    r0.toNat = (s.input.tick.toNat + 2 ^ 32 - reference.toNat) % 2 ^ 32

/-- R111: `dueTime` for every counter width of at least 2. -/
def Obligations.DueTimeFollowsItsRule : Prop :=
  ∀ (w : Nat) (last period now : BitVec w), 2 ≤ w →
    (2 ^ (w - 1) ≤ (now.toNat + 2 ^ w - last.toNat) % 2 ^ w → dueTime last period now = (false, last)) ∧
    ((now.toNat + 2 ^ w - last.toNat) % 2 ^ w < 2 ^ (w - 1) →
      (dueTime last period now).1 = true ∧
      (2 ^ w ≤ last.toNat + period.toNat →
        (dueTime last period now).2.toNat = (now.toNat + period.toNat) % 2 ^ w) ∧
      (last.toNat + period.toNat < 2 ^ w →
        (dueTime last period now).2.toNat = last.toNat + period.toNat))

/-- R113: `DUETIME` answers whether the deadline has passed and the next deadline, and changes nothing. -/
def Obligations.DuetimeCommandResult : Prop :=
  ∀ (s : State) (last : Tick) (period : Duration), ∃ r0 r1 : Result,
    exec (.duetime last period) s = .next { s with rsp := okRsp r0 r1 } ∧
    let d := (s.input.tick.toNat + 2 ^ 32 - last.toNat) % 2 ^ 32
    (2 ^ 31 ≤ d → r0 = 0#48 ∧ r1.toNat = last.toNat) ∧
    (d < 2 ^ 31 → r0 = 1#48 ∧
      (2 ^ 32 ≤ last.toNat + period.toNat → r1.toNat = (s.input.tick.toNat + period.toNat) % 2 ^ 32) ∧
      (last.toNat + period.toNat < 2 ^ 32 → r1.toNat = last.toNat + period.toNat))

/-- R114 (2): called within two periods of the deadline, a firing `dueTime` gives a next deadline no more than one period
from `now`, on either side, across a wrap too. -/
def Obligations.NextDeadlineWithinOnePeriod : Prop :=
  ∀ last period now next : Tick, dueTime last period now = (true, next) →
    (elapsedSince last now).toNat ≤ 2 * period.toNat →
    (elapsedSince next now).toNat ≤ period.toNat ∨ (elapsedSince now next).toNat ≤ period.toNat

/-! ### TemperatureSampler -/

/-- R121 (R120): `TSAMPLE` writes the sampled code into the slot `WIDX` names, advances `WIDX` modulo the capacity, and
changes no other slot and nothing else. -/
def Obligations.TsampleWritesOneSlot : Prop :=
  ∀ s : State, s.Inv → ∃ (m : Memory) (k : BitVec 8),
    exec .tsample s = .next { s with buf := m, widx := k, rsp := okRsp 0#48 0#48 } ∧
    m.length = s.buf.length ∧ bufRead m s.widx.toNat = s.input.adcRaw ∧
    (∀ j, j ≠ s.widx.toNat → bufRead m j = bufRead s.buf j) ∧ k.toNat = (s.widx.toNat + 1) % s.cfg.cap

/-- R120: after `k ≤ CAP` sample writes the slots from the old `WIDX` on, around the end, hold the `k` samples in order,
the others hold what they held, and `WIDX` has advanced by `k` modulo `CAP`. -/
def Obligations.BufferHoldsTheLastSamples : Prop :=
  ∀ (s : State) (vs : List AdcCode), s.Inv → vs.length ≤ s.cfg.cap →
    let t := vs.foldl (fun u v => sampleWrite v u) s
    t.buf.length = s.cfg.cap ∧ t.widx.toNat = (s.widx.toNat + vs.length) % s.cfg.cap ∧
    ∀ j < s.cfg.cap, bufRead t.buf ((s.widx.toNat + j) % s.cfg.cap) =
      if j < vs.length then vs.getD j 0#16 else bufRead s.buf ((s.widx.toNat + j) % s.cfg.cap)

/-- R122, S3: after `CAP` samples of one value the raw-average stage of `TEMPRD` is that value exactly. -/
def Obligations.MeanOfIdenticalSamplesIsExact : Prop :=
  ∀ (s : State) (v : AdcCode), s.Inv →
    ∃ (t : State) (r0 r1 : Result),
      exec .temprd ((List.replicate s.cfg.cap v).foldl (fun u x => sampleWrite x u) s) = .next t ∧
      t.rsp = okRsp r0 r1 ∧ r1.toNat = v.toNat * 65536

/-- R125 (R122, R124): where the curve has no zero divisor `TEMPRD` answers the temperature and the mean, and changes
nothing. -/
def Obligations.TemprdResult : Prop :=
  ∀ s : State, s.Inv →
    let sum : Int := ((s.buf.map BitVec.toNat).sum : Nat)
    let p : Int := ((s.cfg.adcMax : Int) * s.cfg.cap - sum) * s.cfg.rdiv.toInt
    let q : Int := sum * 65536
    let den : Int := q * (65536 * p - s.cfg.cd.toInt * q)
    let num : Int := 65536 * (s.cfg.ca.toInt * p * p + s.cfg.cb.toInt * p * q + s.cfg.cc.toInt * q * q)
    sum ≠ 0 → den ≠ 0 →
    ∃ r0 r1 : Result, exec .temprd s = .next { s with rsp := okRsp r0 r1 } ∧
      r0.toInt = min (max (s.cfg.offset.toInt + Int.fdiv num den) (-140737488355328)) 140737488355327 ∧
      (r1.toNat : Int) = sum * 65536 / s.cfg.cap

/-- R126: at a singular point of the curve `TEMPRD` still answers `OK` with the mean in `r1`, `r0` is the model's free
value, and no state changes but the count of free values drawn. -/
def Obligations.TemprdAtSingularPointIsUnconstrained : Prop :=
  ∀ s : State, s.Inv →
    let sum : Int := ((s.buf.map BitVec.toNat).sum : Nat)
    let p : Int := ((s.cfg.adcMax : Int) * s.cfg.cap - sum) * s.cfg.rdiv.toInt
    let q : Int := sum * 65536
    (sum = 0 ∨ q * (65536 * p - s.cfg.cd.toInt * q) = 0) →
    ∃ r1 : Result, exec .temprd s = .next { s with
        rsp := okRsp (Config.freeCurve s.curveDraws) r1, curveDraws := s.curveDraws + 1 } ∧
      (r1.toNat : Int) = sum * 65536 / s.cfg.cap

/-- R124 against R123: the integer formula is the real-number curve evaluated exactly on the mean reading and rounded
once, down, then saturated; and its divisor is zero exactly when the resistance is the curve's `d`. -/
def Obligations.SensorCurveIsExactAndRoundedOnce : Prop :=
  ∀ (cfg : Cfg) (sum : Nat), cfg.wf = true → sum ≠ 0 →
    let reading : ℚ := (sum : ℚ) / cfg.cap
    let real : Fx → ℚ := fun v => (v.toInt : ℚ) / 65536
    let res : ℚ := ((cfg.adcMax : ℚ) / reading - 1) * real cfg.rdiv
    let temp : ℚ := real cfg.offset + (real cfg.ca * res ^ 2 + real cfg.cb * res + real cfg.cc) / (res - real cfg.cd)
    (curveDen cfg sum = 0 ↔ res = real cfg.cd) ∧
    (res ≠ real cfg.cd → tconv cfg sum = min (max ⌊65536 * temp⌋ (-140737488355328)) 140737488355327)

/-! ### TachometerTracker -/

/-- R137 (R136): `TACHPOLL` polls every channel and changes nothing else. -/
def Obligations.TachpollPollsEveryChannel : Prop :=
  ∀ s : State, ∃ gs, exec .tachpoll s = .next { s with fans := gs, rsp := okRsp 0#48 0#48 } ∧
    PolledChannels s.cfg s.input s.fans gs

/-- R193: `EV_TACH` polls every channel, without a response, and touches nothing else. -/
def Obligations.EvTachPollsEveryChannel : Prop :=
  ∀ s : State, ∃ gs, exec .evTach s = .next { s with fans := gs, rsp := none } ∧
    PolledChannels s.cfg s.input s.fans gs

/-- R142 (1): after an accepted transition no change is accepted until more than the threshold has passed, and then a
change is. -/
def Obligations.DebounceWindowRejectsAndReopens : Prop :=
  ∀ (cfg : Cfg) (f : FanChannel) (c₁ c₂ : Level) (n₁ n₂ : Tick), accepted cfg n₁ c₁ f = true →
    let g := pollChannel cfg n₁ c₁ f
    ((n₂ - n₁).toNat ≤ cfg.debTicks → pollChannel cfg n₂ c₂ g = g) ∧
    (cfg.debTicks < (n₂ - n₁).toNat → c₂ ≠ c₁ →
      (pollChannel cfg n₂ c₂ g).lvl = c₂ ∧ (pollChannel cfg n₂ c₂ g).ltt = n₂ ∧
      (pollChannel cfg n₂ c₂ g).pcnt = if c₂ = cfg.riseLevel then g.pcnt + 1#32 else g.pcnt)

/-- R139 (R138): `RPMWIN` gives every channel its scaled count modulo `2^32`, clears every counter, and changes nothing
else. -/
def Obligations.RpmwinScalesAndClears : Prop :=
  ∀ s : State, ∃ gs, exec .rpmwin s = .next { s with fans := gs, rsp := okRsp 0#48 0#48 } ∧
    gs.length = s.fans.length ∧
    ∀ (i : Nat) (f : FanChannel), s.fans[i]? = some f → ∃ g, gs[i]? = some g ∧
      g.rpm.toNat = (f.pcnt.toNat * s.cfg.rpmScale) % 2 ^ 32 ∧ g.pcnt = 0#32 ∧ g.lvl = f.lvl ∧ g.ltt = f.ltt

/-- R138, S5: a second window with no new pulses gives 0 on every channel. -/
def Obligations.SecondWindowWithoutPulsesIsZero : Prop :=
  ∀ s t u : State, exec .rpmwin s = .next t → exec .rpmwin t = .next u →
    ∀ (i : Nat) (g : FanChannel), u.fans[i]? = some g → g.rpm = 0#32 ∧ g.pcnt = 0#32

/-- R140: `RPMRD` answers the channel's RPM, or `ERR` for a channel of `cfg.N` or more, and changes nothing. -/
def Obligations.RpmrdResult : Prop :=
  (∀ (s : State) (ch : ChannelIndex) (f : FanChannel), ch.toNat < s.cfg.n → s.fans[ch.toNat]? = some f →
    exec (.rpmrd ch) s = .next { s with rsp := okRsp (f.rpm.setWidth 48) 0#48 }) ∧
  (∀ (s : State) (ch : ChannelIndex), s.cfg.n ≤ ch.toNat → exec (.rpmrd ch) s = .next { s with rsp := errRsp })

/-- R142 (4), over all operations: a pulse counter changes only by one more in a poll or to 0 in a window. -/
def Obligations.PulseCountersMoveByOneOrClear : Prop :=
  ∀ (i : Instr) (s t : State) (k : Nat) (f : FanChannel), exec i s = .next t → s.fans[k]? = some f →
    ∃ g, t.fans[k]? = some g ∧
      (g.pcnt = f.pcnt ∨ (g.pcnt = f.pcnt + 1#32 ∧ (i = .tachpoll ∨ i = .evTach)) ∨ (g.pcnt = 0#32 ∧ i = .rpmwin))

/-! ### PIDController -/

/-- R13: `fdiv` is the floor of the exact quotient, for every sign combination. -/
def Obligations.FloorDivisionRoundsDown : Prop :=
  ∀ n d : Int, d ≠ 0 → fdiv n d = ⌊(n : ℚ) / d⌋ ∧ fdiv n d = fdiv (-n) (-d)

/-- R150 (with the bound of R151): `PIDUPD` evaluates the control law, each quantity exactly and rounded once, stores the
four PID fields, answers the output, and changes nothing else. -/
def Obligations.PidupdFollowsTheControlLaw : Prop :=
  ∀ (s : State) (m : Fx), s.cfg.wf = true →
    let sat' : Int → Int := fun x => min (max x (-140737488355328)) 140737488355327
    let e : Int := sat' (m.toInt - s.cfg.sp.toInt)
    let el : Nat := (s.input.tick.toNat + 2 ^ 32 - s.ltime.toNat) % 2 ^ 32
    let de : Int := e - s.lerr.toInt
    let imax : Int := if s.cfg.ki.toInt = 0 then 140737488355327 else sat' (Int.fdiv (50 * 2 ^ 32) s.cfg.ki.toInt)
    let iacc : Int := s.integ.toInt + Int.fdiv (e * el) s.cfg.tickHz
    let inew : Int := sat' (max iacc (sat' (-imax)))
    let pterm : Int := Int.fdiv (s.cfg.kp.toInt * e) 65536
    let iterm : Int := Int.fdiv (s.cfg.ki.toInt * inew) 65536
    let dterm : Int := if 0 < el then Int.fdiv (s.cfg.kd.toInt * de * s.cfg.tickHz) (65536 * el) else 0
    ∃ integ lerr lout : Fx,
      exec (.pidupd m) s = .next { s with
        integ := integ, lerr := lerr, ltime := s.input.tick, lout := lout, rsp := okRsp lout 0#48 } ∧
      integ.toInt = inew ∧ lerr.toInt = e ∧
      lout.toInt = min (max (3276800 + pterm + iterm + dterm) 0) 6553600

/-- R152: the output of `PIDUPD` is within `[0, 100.0]`, for every operand in every state. -/
def Obligations.PidOutputAlwaysWithinRange : Prop :=
  ∀ (s : State) (m : Fx), ∃ (t : State) (r0 : Result), exec (.pidupd m) s = .next t ∧ t.rsp = okRsp r0 0#48 ∧
    t.lout = r0 ∧ 0 ≤ r0.toInt ∧ r0.toInt ≤ 6553600

/-- R154: after any `PIDUPD` with `KI ≠ 0` the integral is at or above its lower bound, and (R151) with `KI > 0` the
integral term is never below -50.0. -/
def Obligations.IntegralNeverBelowItsBound : Prop :=
  ∀ (s t : State) (m : Fx), s.cfg.ki.toInt ≠ 0 → exec (.pidupd m) s = .next t →
    -Int.fdiv (50 * 2 ^ 32) s.cfg.ki.toInt ≤ t.integ.toInt ∧
    (0 < s.cfg.ki.toInt → -3276800 ≤ Int.fdiv (s.cfg.ki.toInt * t.integ.toInt) 65536)

/-- R155 (1): at the setpoint, from a zero integral and a zero last error, every `PIDUPD` gives the bias 50.0 and leaves
them zero, at any tick (`KI ≥ 0`). -/
def Obligations.SetpointHoldsTheBias : Prop :=
  ∀ s : State, s.cfg.wf = true → 0 ≤ s.cfg.ki.toInt → s.integ = 0#48 → s.lerr = 0#48 →
    ∃ t, exec (.pidupd s.cfg.sp) s = .next t ∧ t.rsp = okRsp 3276800#48 0#48 ∧ t.lout = 3276800#48 ∧
      t.integ = 0#48 ∧ t.lerr = 0#48 ∧ t.ltime = s.input.tick

/-- R153: `PIDRD` answers `LOUT` and `INTEG` and changes nothing. -/
def Obligations.PidrdResult : Prop :=
  ∀ s : State, exec .pidrd s = .next { s with rsp := okRsp s.lout s.integ }

/-! ### ActuationLayer -/

/-- R165: `clampDuty` is total over all `Fx` values, gives a duty within the floor and 100.0, and is idempotent. -/
def Obligations.FloorClampIsIdempotent : Prop :=
  ∀ (cfg : Cfg) (c : Fin 3) (d : Fx), cfg.wf = true →
    (clampDuty cfg c d.toInt).toInt = min (max d.toInt (cfg.floor.get c).toInt) 6553600 ∧
    (cfg.floor.get c).toInt ≤ (clampDuty cfg c d.toInt).toInt ∧ (clampDuty cfg c d.toInt).toInt ≤ 6553600 ∧
    clampDuty cfg c (clampDuty cfg c d.toInt).toInt = clampDuty cfg c d.toInt

/-- R166: `APPLY` sets each duty to the command clamped with the channel's own floor, answers channel 0's, and changes
nothing else. -/
def Obligations.ApplyClampsEveryChannel : Prop :=
  ∀ (s : State) (d : Fx), ∃ p : PerPwm,
    exec (.applyDuty d) s = .next { s with duty := p, rsp := okRsp p.ch0 0#48 } ∧
    p.ch0.toInt = min (max d.toInt s.cfg.floor.ch0.toInt) 6553600 ∧
    p.ch1.toInt = min (max d.toInt s.cfg.floor.ch1.toInt) 6553600 ∧
    p.ch2.toInt = min (max d.toInt s.cfg.floor.ch2.toInt) 6553600

/-- R167: `APPLYCH` sets one duty under its floor and leaves the others, or answers `ERR` for a channel of 3 or more, and
changes nothing else. -/
def Obligations.ApplychSetsOneChannel : Prop :=
  (∀ (s : State) (c : Fin 3) (ch : ChannelIndex) (d : Fx), ch.toNat = c.val → ∃ (p : PerPwm) (v : Fx),
    exec (.applyCh ch d) s = .next { s with duty := p, rsp := okRsp v 0#48 } ∧
    p.get c = v ∧ v.toInt = min (max d.toInt (s.cfg.floor.get c).toInt) 6553600 ∧
    ∀ c' : Fin 3, c' ≠ c → p.get c' = s.duty.get c') ∧
  (∀ (s : State) (ch : ChannelIndex) (d : Fx), 3 ≤ ch.toNat →
    exec (.applyCh ch d) s = .next { s with rsp := errRsp })

/-- R168: the output port carries the whole duty, and only `APPLY` and `APPLYCH` change it. -/
def Obligations.PwmPortCarriesTheDuty : Prop :=
  (∀ (s : State) (c : Fin 3), s.Inv → ((s.pwmDuty c).toNat : Int) = (s.duty.get c).toInt) ∧
  (∀ (i : Instr) (s t : State) (c : Fin 3), exec i s = .next t → t.pwmDuty c ≠ s.pwmDuty c →
    (∃ d, i = .applyDuty d) ∨ ∃ ch d, i = .applyCh ch d)

/-! ### Flags and system -/

/-- R175: `NOP`, the all-zero word and no other, answers `OK(0, 0)` and changes nothing. -/
def Obligations.NopOnlyResponds : Prop :=
  (∀ s : State, exec .nop s = .next { s with rsp := okRsp 0#48 0#48 }) ∧
  ∀ (cfg : Cfg) (w : CommandWord), decode cfg w = .ok .nop ↔ w = 0#96

/-- R176: `FLAGRD` answers the flags, each at its own bit, and changes nothing. -/
def Obligations.FlagrdResult : Prop :=
  ∀ s : State, ∃ r0 : Result, exec .flagrd s = .next { s with rsp := okRsp r0 0#48 } ∧
    ∀ k, r0.getLsbD k = (decide (k < 3) && s.flags.getLsbD k)

/-- R177: `FLAGCLR` clears the flags its mask selects, answers the flags before and after, and changes nothing else. -/
def Obligations.FlagclrClearsSelectedFlags : Prop :=
  ∀ (s : State) (m : FlagSet), ∃ f : FlagSet,
    exec (.flagclr m) s = .next { s with flags := f, rsp := okRsp (s.flags.setWidth 48) (f.setWidth 48) } ∧
    ∀ k < 3, f.getLsbD k = (s.flags.getLsbD k && !m.getLsbD k)

/-- R190: `EV_TEMP` sets `TEMP_DUE`; in `EVENT` mode it also writes the sampled code at `WIDX` and advances it; it has no
response and changes nothing else. -/
def Obligations.EvTempSetsFlagAndSamplesInEventMode : Prop :=
  ∀ s : State, s.Inv →
    (s.cfg.sampleMode = .polled → exec .evTemp s = .next { s with flags := s.flags ||| 0b001#3, rsp := none }) ∧
    (s.cfg.sampleMode = .event → ∃ (m : Memory) (k : BitVec 8),
      exec .evTemp s = .next { s with flags := s.flags ||| 0b001#3, buf := m, widx := k, rsp := none } ∧
      m.length = s.buf.length ∧ bufRead m s.widx.toNat = s.input.adcRaw ∧
      (∀ j, j ≠ s.widx.toNat → bufRead m j = bufRead s.buf j) ∧ k.toNat = (s.widx.toNat + 1) % s.cfg.cap)

/-- R191, R192: `EV_RPM` and `EV_PID` each set their own flag, have no response and change nothing else. -/
def Obligations.EvRpmAndEvPidSetTheirFlag : Prop :=
  (∀ s : State, exec .evRpm s = .next { s with flags := s.flags ||| 0b010#3, rsp := none }) ∧
  (∀ s : State, exec .evPid s = .next { s with flags := s.flags ||| 0b100#3, rsp := none })

/-- R32, over all operations: only the three timer events set a flag, each its own, and only `FLAGCLR` clears one, and only
one its mask selects. -/
def Obligations.OnlyEventsSetFlagsOnlyFlagclrClears : Prop :=
  ∀ (i : Instr) (s t : State) (k : Nat), exec i s = .next t →
    (s.flags.getLsbD k = false → t.flags.getLsbD k = true →
      (k = 0 ∧ i = .evTemp) ∨ (k = 1 ∧ i = .evRpm) ∨ (k = 2 ∧ i = .evPid)) ∧
    (s.flags.getLsbD k = true → t.flags.getLsbD k = false → ∃ m : FlagSet, i = .flagclr m ∧ m.getLsbD k = true)

/-! ### Whole-machine rules -/

/-- R67: the seven reading commands change no state. -/
def Obligations.ReadingCommandsChangeNoState : Prop :=
  ∀ (i : Instr) (s t : State),
    (i = .nop ∨ (∃ r, i = .elapsed r) ∨ (∃ l p, i = .duetime l p) ∨ i = .temprd ∨ (∃ ch, i = .rpmrd ch) ∨ i = .pidrd ∨
      i = .flagrd) →
    exec i s = .next t → SameCore s t

/-- R49, the writers: each piece of state changes only under the operations of its owner, and no operation touches the
configuration. -/
def Obligations.OnlyTheOwnerWritesItsState : Prop :=
  ∀ (i : Instr) (s t : State), exec i s = .next t →
    t.cfg = s.cfg ∧ t.inbox = s.inbox ∧
    ((t.buf ≠ s.buf ∨ t.widx ≠ s.widx) → i = .tsample ∨ (i = .evTemp ∧ s.cfg.sampleMode = .event)) ∧
    (t.fans.map (fun f => (f.lvl, f.ltt)) ≠ s.fans.map (fun f => (f.lvl, f.ltt)) → i = .tachpoll ∨ i = .evTach) ∧
    (t.fans.map FanChannel.pcnt ≠ s.fans.map FanChannel.pcnt → i = .tachpoll ∨ i = .evTach ∨ i = .rpmwin) ∧
    (t.fans.map FanChannel.rpm ≠ s.fans.map FanChannel.rpm → i = .rpmwin) ∧
    ((t.integ ≠ s.integ ∨ t.lerr ≠ s.lerr ∨ t.ltime ≠ s.ltime ∨ t.lout ≠ s.lout) → ∃ m, i = .pidupd m) ∧
    (t.duty ≠ s.duty → (∃ d, i = .applyDuty d) ∨ ∃ ch d, i = .applyCh ch d) ∧
    (t.flags ≠ s.flags → i = .evTemp ∨ i = .evRpm ∨ i = .evPid ∨ ∃ m, i = .flagclr m)

/-- R203: `LVL`, `LTT`, `PCNT`, `LERR`, `LTIME` and `WIDX` are read by no command: two states that differ only there give
the same response to every operation but `PIDUPD`, whose law uses two of them. -/
def Obligations.HiddenStateIsNotReadable : Prop :=
  ∀ (i : Instr) (s t a b : State), (∀ m, i ≠ .pidupd m) →
    t.cfg = s.cfg → t.flags = s.flags → t.buf = s.buf → t.integ = s.integ → t.lout = s.lout → t.duty = s.duty →
    t.fans.map FanChannel.rpm = s.fans.map FanChannel.rpm → t.inbox = s.inbox → t.inputDraws = s.inputDraws →
    t.curveDraws = s.curveDraws → exec i s = .next a → exec i t = .next b → b.rsp = a.rsp

/-- R91 `CTRLSTEP` (R225 step 3), in the model's form of a host sequence (log 13: no event between its commands, and all of them
sample the same ports, where U11 leaves the inputs of each to the environment): the control step ends with every duty at the
controller's output clamped to the channel's floor, the controller evaluated at `now`, `PID_DUE` clear, the other flags
and the temperature and fan state as they were; at a singular point of the sensor curve too. -/
def Obligations.ControlStepAppliesTheClampedOutput : Prop :=
  ∀ (s : State) (last : Response), s.Inv → ∃ t, runHost (Pseudo.expand s.cfg .ctrlstep) last s = .next t ∧
    (∀ c : Fin 3, (t.duty.get c).toInt = min (max t.lout.toInt (s.cfg.floor.get c).toInt) 6553600) ∧
    t.ltime = s.input.tick ∧ t.flags = s.flags &&& 0b011#3 ∧ t.buf = s.buf ∧ t.widx = s.widx ∧ t.fans = s.fans ∧
    t.cfg = s.cfg
end

