-- ==== Sys2Proof/Laws/Arith.lean ====
section
/-! SUPPORT. What the shared arithmetic gives: `sat` and `clamp` bound their results, and a value within the range of `Fx`
survives being stored. -/

namespace Sys2Proof.Machine

theorem sat_ge (x : Int) : fxMin ≤ sat x := by
  unfold sat fxMin fxMax; omega

theorem sat_le (x : Int) : sat x ≤ fxMax := by
  unfold sat fxMin fxMax; omega

theorem sat_of_range {x : Int} (h₁ : fxMin ≤ x) (h₂ : x ≤ fxMax) : sat x = x := by
  unfold sat; omega

@[simp] theorem sat_sat (x : Int) : sat (sat x) = sat x :=
  sat_of_range (sat_ge x) (sat_le x)

theorem sat_mono {x y : Int} (h : x ≤ y) : sat x ≤ sat y := by
  unfold sat; omega

theorem clamp_ge {x lo hi : Int} (h : lo ≤ hi) : lo ≤ clamp x lo hi := by
  unfold clamp; omega

theorem clamp_le (x lo hi : Int) : clamp x lo hi ≤ hi := by
  unfold clamp; omega

theorem clamp_of_range {x lo hi : Int} (h₁ : lo ≤ x) (h₂ : x ≤ hi) : clamp x lo hi = x := by
  unfold clamp; omega

/-- A stored raw integer reads back as itself when it is within the range of `Fx` (R11). -/
theorem toFx_toInt {x : Int} (h₁ : fxMin ≤ x) (h₂ : x ≤ fxMax) : (toFx x).toInt = x := by
  unfold toFx fxMin fxMax at *
  rw [BitVec.toInt_ofInt]
  exact Int.bmod_eq_of_le (by norm_num; omega) (by norm_num; omega)

@[simp] theorem toFx_sat_toInt (x : Int) : (toFx (sat x)).toInt = sat x :=
  toFx_toInt (sat_ge x) (sat_le x)

/-- Every `Fx` is within its range (R11). -/
theorem fx_range (v : Fx) : fxMin ≤ v.toInt ∧ v.toInt ≤ fxMax := by
  have h₁ := BitVec.le_toInt v
  have h₂ := @BitVec.toInt_lt 48 v
  norm_num at h₁ h₂
  unfold fxMin fxMax
  omega

@[simp] theorem toFx_of_toInt (v : Fx) : toFx v.toInt = v := by
  simp [toFx]

/-- `fdiv` is the floor of the exact quotient (R13). -/
theorem fdiv_eq_ediv {n d : Int} (h : 0 ≤ d) : fdiv n d = n / d := by
  unfold fdiv; exact Int.fdiv_eq_ediv_of_nonneg n h

end Sys2Proof.Machine
end

