-- ==== Sys2Proof/Laws/Encoding.lean ====
section
/-! SUPPORT. The fields of a packed command word are the fields it was packed from (R80), and a must-be-zero mask acts
field by field (R85). -/

namespace Sys2Proof

/-- One bit of a packed command word. -/
theorem packWord_getLsbD (b : BitVec 32) (a : BitVec 48) (ch : ChannelIndex) (op : BitVec 8) (i : Nat) :
    (packWord b a ch op).getLsbD i =
      if i < 8 then op.getLsbD i else if i < 16 then ch.getLsbD (i - 8)
      else if i < 64 then a.getLsbD (i - 16) else b.getLsbD (i - 64) := by
  unfold packWord
  simp only [BitVec.getLsbD_or, BitVec.getLsbD_shiftLeft, BitVec.getLsbD_setWidth]
  by_cases h1 : i < 8
  · have : i < 96 := by omega
    have : i < 16 := by omega
    have : i < 64 := by omega
    simp [*]
  by_cases h2 : i < 16
  · have : i < 96 := by omega
    have : i < 64 := by omega
    have h := op.getLsbD_of_ge i (by omega)
    have : i - 8 < 96 := by omega
    simp [*]
  by_cases h3 : i < 64
  · have : i < 96 := by omega
    have h := op.getLsbD_of_ge i (by omega)
    have h' := ch.getLsbD_of_ge (i - 8) (by omega)
    have : i - 16 < 96 := by omega
    simp [*]
  · have h := op.getLsbD_of_ge i (by omega)
    have h' := ch.getLsbD_of_ge (i - 8) (by omega)
    have h'' := a.getLsbD_of_ge (i - 16) (by omega)
    by_cases h4 : i < 96
    · have : i - 64 < 96 := by omega
      simp [*]
    · have h''' := b.getLsbD_of_ge (i - 64) (by omega)
      simp [*]

@[simp] theorem opOf_packWord (b : BitVec 32) (a : BitVec 48) (ch : ChannelIndex) (op : BitVec 8) : opOf (packWord b a ch op) = op := by
  unfold opOf
  ext i hi
  simp [packWord_getLsbD, hi]

@[simp] theorem chOf_packWord (b : BitVec 32) (a : BitVec 48) (ch : ChannelIndex) (op : BitVec 8) : chOf (packWord b a ch op) = ch := by
  unfold chOf
  ext i hi
  have : 8 + i < 16 := by omega
  simp [packWord_getLsbD, hi, this]

@[simp] theorem rsvOf_packWord (b : BitVec 32) (a : BitVec 48) (ch : ChannelIndex) (op : BitVec 8) : rsvOf (packWord b a ch op) = 0#4 := by
  unfold rsvOf
  ext i hi
  have h1 : ¬ 12 + i < 8 := by omega
  have h2 : 12 + i < 16 := by omega
  have h3 : 4 ≤ 12 + i - 8 := by omega
  simp [packWord_getLsbD, h1, h2, BitVec.getLsbD_of_ge ch _ h3]

@[simp] theorem aOf_packWord (b : BitVec 32) (a : BitVec 48) (ch : ChannelIndex) (op : BitVec 8) : aOf (packWord b a ch op) = a := by
  unfold aOf
  ext i hi
  have h1 : ¬ 16 + i < 8 := by omega
  have h2 : ¬ 16 + i < 16 := by omega
  have h3 : 16 + i < 64 := by omega
  simp [packWord_getLsbD, h1,  h3, hi]

@[simp] theorem bOf_packWord (b : BitVec 32) (a : BitVec 48) (ch : ChannelIndex) (op : BitVec 8) : bOf (packWord b a ch op) = b := by
  unfold bOf
  ext i hi
  have h1 : ¬ 64 + i < 8 := by omega
  have h2 : ¬ 64 + i < 16 := by omega
  have h3 : ¬ 64 + i < 64 := by omega
  simp [packWord_getLsbD, h1, h2,  hi]

/-- A mask acts on each field of a command word by itself: the part of the mask above `rsv` is given field by field. -/
theorem packWord_and (b b' : BitVec 32) (a a' : BitVec 48) (ch ch' : ChannelIndex) (op op' : BitVec 8) (m : CommandWord)
    (hm : m = packWord b' a' ch' op' ||| (0xF#4).setWidth 96 <<< 12) :
    packWord b a ch op &&& m = packWord (b &&& b') (a &&& a') (ch &&& ch') (op &&& op') := by
  subst hm
  apply BitVec.eq_of_getLsbD_eq
  intro i hi
  have hr : ((0xF#4).setWidth 96 <<< 12).getLsbD i = (decide (12 ≤ i) && decide (i < 16)) := by
    revert i; decide
  simp only [BitVec.getLsbD_and, BitVec.getLsbD_or, packWord_getLsbD, hr]
  by_cases h1 : i < 8
  · have : ¬ 12 ≤ i := by omega
    simp [*]
  by_cases h2 : i < 16
  · by_cases h4 : 12 ≤ i
    · simp [*, BitVec.getLsbD_of_ge ch (i - 8) (by omega)]
    · simp [*]
  by_cases h3 : i < 64
  · have : 12 ≤ i := by omega
    simp [*]
  · have : 12 ≤ i := by omega
    simp [*]

/-- The operand bits of formats `T` and `TT` leave `a[47:32]` zero (R86). -/
theorem packTick_high (t : Tick) : packTick t &&& 0xFFFF00000000#48 = 0#48 := by
  unfold packTick
  ext i hi
  simp
  interval_cases i <;> simp

/-- A Tick comes back from its `a` field (R84). -/
@[simp] theorem packTick_low (t : Tick) : (packTick t).extractLsb' 0 32 = t := by
  unfold packTick
  ext i hi
  have : i < 48 := by omega
  simp [this, hi]

/-- A flag mask comes back from its `a` field (R84). -/
@[simp] theorem packMask_low (m : FlagSet) : (m.setWidth 48).extractLsb' 0 3 = m := by
  revert m; decide

/-- A flag mask leaves `a[47:3]` zero (R86). -/
theorem packMask_high (m : FlagSet) : m.setWidth 48 &&& 0xFFFFFFFFFFF8#48 = 0#48 := by
  revert m; decide

end Sys2Proof
end

