-- ==== Sys2Proof/Laws/State.lean ====
section
/-! SUPPORT. One lemma per field per update of the state, true by rfl, and what each update leaves of the sampled ports. -/

namespace Sys2Proof.Machine

@[simp] theorem State.setFlags_cfg (v : FlagSet) (s : State) : (s.setFlags v).cfg = s.cfg := rfl
@[simp] theorem State.setFlags_flags (v : FlagSet) (s : State) : (s.setFlags v).flags = v := rfl
@[simp] theorem State.setFlags_buf (v : FlagSet) (s : State) : (s.setFlags v).buf = s.buf := rfl
@[simp] theorem State.setFlags_widx (v : FlagSet) (s : State) : (s.setFlags v).widx = s.widx := rfl
@[simp] theorem State.setFlags_fans (v : FlagSet) (s : State) : (s.setFlags v).fans = s.fans := rfl
@[simp] theorem State.setFlags_integ (v : FlagSet) (s : State) : (s.setFlags v).integ = s.integ := rfl
@[simp] theorem State.setFlags_lerr (v : FlagSet) (s : State) : (s.setFlags v).lerr = s.lerr := rfl
@[simp] theorem State.setFlags_ltime (v : FlagSet) (s : State) : (s.setFlags v).ltime = s.ltime := rfl
@[simp] theorem State.setFlags_lout (v : FlagSet) (s : State) : (s.setFlags v).lout = s.lout := rfl
@[simp] theorem State.setFlags_duty (v : FlagSet) (s : State) : (s.setFlags v).duty = s.duty := rfl
@[simp] theorem State.setFlags_rsp (v : FlagSet) (s : State) : (s.setFlags v).rsp = s.rsp := rfl
@[simp] theorem State.setFlags_inbox (v : FlagSet) (s : State) : (s.setFlags v).inbox = s.inbox := rfl
@[simp] theorem State.setFlags_inputDraws (v : FlagSet) (s : State) : (s.setFlags v).inputDraws = s.inputDraws := rfl
@[simp] theorem State.setFlags_curveDraws (v : FlagSet) (s : State) : (s.setFlags v).curveDraws = s.curveDraws := rfl

@[simp] theorem State.setBuf_cfg (m : Memory) (k : BitVec 8) (s : State) : (s.setBuf m k).cfg = s.cfg := rfl
@[simp] theorem State.setBuf_flags (m : Memory) (k : BitVec 8) (s : State) : (s.setBuf m k).flags = s.flags := rfl
@[simp] theorem State.setBuf_buf (m : Memory) (k : BitVec 8) (s : State) : (s.setBuf m k).buf = m := rfl
@[simp] theorem State.setBuf_widx (m : Memory) (k : BitVec 8) (s : State) : (s.setBuf m k).widx = k := rfl
@[simp] theorem State.setBuf_fans (m : Memory) (k : BitVec 8) (s : State) : (s.setBuf m k).fans = s.fans := rfl
@[simp] theorem State.setBuf_integ (m : Memory) (k : BitVec 8) (s : State) : (s.setBuf m k).integ = s.integ := rfl
@[simp] theorem State.setBuf_lerr (m : Memory) (k : BitVec 8) (s : State) : (s.setBuf m k).lerr = s.lerr := rfl
@[simp] theorem State.setBuf_ltime (m : Memory) (k : BitVec 8) (s : State) : (s.setBuf m k).ltime = s.ltime := rfl
@[simp] theorem State.setBuf_lout (m : Memory) (k : BitVec 8) (s : State) : (s.setBuf m k).lout = s.lout := rfl
@[simp] theorem State.setBuf_duty (m : Memory) (k : BitVec 8) (s : State) : (s.setBuf m k).duty = s.duty := rfl
@[simp] theorem State.setBuf_rsp (m : Memory) (k : BitVec 8) (s : State) : (s.setBuf m k).rsp = s.rsp := rfl
@[simp] theorem State.setBuf_inbox (m : Memory) (k : BitVec 8) (s : State) : (s.setBuf m k).inbox = s.inbox := rfl
@[simp] theorem State.setBuf_inputDraws (m : Memory) (k : BitVec 8) (s : State) : (s.setBuf m k).inputDraws = s.inputDraws := rfl
@[simp] theorem State.setBuf_curveDraws (m : Memory) (k : BitVec 8) (s : State) : (s.setBuf m k).curveDraws = s.curveDraws := rfl

@[simp] theorem State.setFans_cfg (f : List FanChannel) (s : State) : (s.setFans f).cfg = s.cfg := rfl
@[simp] theorem State.setFans_flags (f : List FanChannel) (s : State) : (s.setFans f).flags = s.flags := rfl
@[simp] theorem State.setFans_buf (f : List FanChannel) (s : State) : (s.setFans f).buf = s.buf := rfl
@[simp] theorem State.setFans_widx (f : List FanChannel) (s : State) : (s.setFans f).widx = s.widx := rfl
@[simp] theorem State.setFans_fans (f : List FanChannel) (s : State) : (s.setFans f).fans = f := rfl
@[simp] theorem State.setFans_integ (f : List FanChannel) (s : State) : (s.setFans f).integ = s.integ := rfl
@[simp] theorem State.setFans_lerr (f : List FanChannel) (s : State) : (s.setFans f).lerr = s.lerr := rfl
@[simp] theorem State.setFans_ltime (f : List FanChannel) (s : State) : (s.setFans f).ltime = s.ltime := rfl
@[simp] theorem State.setFans_lout (f : List FanChannel) (s : State) : (s.setFans f).lout = s.lout := rfl
@[simp] theorem State.setFans_duty (f : List FanChannel) (s : State) : (s.setFans f).duty = s.duty := rfl
@[simp] theorem State.setFans_rsp (f : List FanChannel) (s : State) : (s.setFans f).rsp = s.rsp := rfl
@[simp] theorem State.setFans_inbox (f : List FanChannel) (s : State) : (s.setFans f).inbox = s.inbox := rfl
@[simp] theorem State.setFans_inputDraws (f : List FanChannel) (s : State) : (s.setFans f).inputDraws = s.inputDraws := rfl
@[simp] theorem State.setFans_curveDraws (f : List FanChannel) (s : State) : (s.setFans f).curveDraws = s.curveDraws := rfl

@[simp] theorem State.setPid_cfg (i e : Fx) (n : Tick) (o : Fx) (s : State) : (s.setPid i e n o).cfg = s.cfg := rfl
@[simp] theorem State.setPid_flags (i e : Fx) (n : Tick) (o : Fx) (s : State) : (s.setPid i e n o).flags = s.flags := rfl
@[simp] theorem State.setPid_buf (i e : Fx) (n : Tick) (o : Fx) (s : State) : (s.setPid i e n o).buf = s.buf := rfl
@[simp] theorem State.setPid_widx (i e : Fx) (n : Tick) (o : Fx) (s : State) : (s.setPid i e n o).widx = s.widx := rfl
@[simp] theorem State.setPid_fans (i e : Fx) (n : Tick) (o : Fx) (s : State) : (s.setPid i e n o).fans = s.fans := rfl
@[simp] theorem State.setPid_integ (i e : Fx) (n : Tick) (o : Fx) (s : State) : (s.setPid i e n o).integ = i := rfl
@[simp] theorem State.setPid_lerr (i e : Fx) (n : Tick) (o : Fx) (s : State) : (s.setPid i e n o).lerr = e := rfl
@[simp] theorem State.setPid_ltime (i e : Fx) (n : Tick) (o : Fx) (s : State) : (s.setPid i e n o).ltime = n := rfl
@[simp] theorem State.setPid_lout (i e : Fx) (n : Tick) (o : Fx) (s : State) : (s.setPid i e n o).lout = o := rfl
@[simp] theorem State.setPid_duty (i e : Fx) (n : Tick) (o : Fx) (s : State) : (s.setPid i e n o).duty = s.duty := rfl
@[simp] theorem State.setPid_rsp (i e : Fx) (n : Tick) (o : Fx) (s : State) : (s.setPid i e n o).rsp = s.rsp := rfl
@[simp] theorem State.setPid_inbox (i e : Fx) (n : Tick) (o : Fx) (s : State) : (s.setPid i e n o).inbox = s.inbox := rfl
@[simp] theorem State.setPid_inputDraws (i e : Fx) (n : Tick) (o : Fx) (s : State) : (s.setPid i e n o).inputDraws = s.inputDraws := rfl
@[simp] theorem State.setPid_curveDraws (i e : Fx) (n : Tick) (o : Fx) (s : State) : (s.setPid i e n o).curveDraws = s.curveDraws := rfl

@[simp] theorem State.setDuty_cfg (d : PerPwm) (s : State) : (s.setDuty d).cfg = s.cfg := rfl
@[simp] theorem State.setDuty_flags (d : PerPwm) (s : State) : (s.setDuty d).flags = s.flags := rfl
@[simp] theorem State.setDuty_buf (d : PerPwm) (s : State) : (s.setDuty d).buf = s.buf := rfl
@[simp] theorem State.setDuty_widx (d : PerPwm) (s : State) : (s.setDuty d).widx = s.widx := rfl
@[simp] theorem State.setDuty_fans (d : PerPwm) (s : State) : (s.setDuty d).fans = s.fans := rfl
@[simp] theorem State.setDuty_integ (d : PerPwm) (s : State) : (s.setDuty d).integ = s.integ := rfl
@[simp] theorem State.setDuty_lerr (d : PerPwm) (s : State) : (s.setDuty d).lerr = s.lerr := rfl
@[simp] theorem State.setDuty_ltime (d : PerPwm) (s : State) : (s.setDuty d).ltime = s.ltime := rfl
@[simp] theorem State.setDuty_lout (d : PerPwm) (s : State) : (s.setDuty d).lout = s.lout := rfl
@[simp] theorem State.setDuty_duty (d : PerPwm) (s : State) : (s.setDuty d).duty = d := rfl
@[simp] theorem State.setDuty_rsp (d : PerPwm) (s : State) : (s.setDuty d).rsp = s.rsp := rfl
@[simp] theorem State.setDuty_inbox (d : PerPwm) (s : State) : (s.setDuty d).inbox = s.inbox := rfl
@[simp] theorem State.setDuty_inputDraws (d : PerPwm) (s : State) : (s.setDuty d).inputDraws = s.inputDraws := rfl
@[simp] theorem State.setDuty_curveDraws (d : PerPwm) (s : State) : (s.setDuty d).curveDraws = s.curveDraws := rfl

@[simp] theorem State.setRsp_cfg (r : Option Response) (s : State) : (s.setRsp r).cfg = s.cfg := rfl
@[simp] theorem State.setRsp_flags (r : Option Response) (s : State) : (s.setRsp r).flags = s.flags := rfl
@[simp] theorem State.setRsp_buf (r : Option Response) (s : State) : (s.setRsp r).buf = s.buf := rfl
@[simp] theorem State.setRsp_widx (r : Option Response) (s : State) : (s.setRsp r).widx = s.widx := rfl
@[simp] theorem State.setRsp_fans (r : Option Response) (s : State) : (s.setRsp r).fans = s.fans := rfl
@[simp] theorem State.setRsp_integ (r : Option Response) (s : State) : (s.setRsp r).integ = s.integ := rfl
@[simp] theorem State.setRsp_lerr (r : Option Response) (s : State) : (s.setRsp r).lerr = s.lerr := rfl
@[simp] theorem State.setRsp_ltime (r : Option Response) (s : State) : (s.setRsp r).ltime = s.ltime := rfl
@[simp] theorem State.setRsp_lout (r : Option Response) (s : State) : (s.setRsp r).lout = s.lout := rfl
@[simp] theorem State.setRsp_duty (r : Option Response) (s : State) : (s.setRsp r).duty = s.duty := rfl
@[simp] theorem State.setRsp_rsp (r : Option Response) (s : State) : (s.setRsp r).rsp = r := rfl
@[simp] theorem State.setRsp_inbox (r : Option Response) (s : State) : (s.setRsp r).inbox = s.inbox := rfl
@[simp] theorem State.setRsp_inputDraws (r : Option Response) (s : State) : (s.setRsp r).inputDraws = s.inputDraws := rfl
@[simp] theorem State.setRsp_curveDraws (r : Option Response) (s : State) : (s.setRsp r).curveDraws = s.curveDraws := rfl

@[simp] theorem State.setInbox_cfg (l : List Ports) (n : Nat) (s : State) : (s.setInbox l n).cfg = s.cfg := rfl
@[simp] theorem State.setInbox_flags (l : List Ports) (n : Nat) (s : State) : (s.setInbox l n).flags = s.flags := rfl
@[simp] theorem State.setInbox_buf (l : List Ports) (n : Nat) (s : State) : (s.setInbox l n).buf = s.buf := rfl
@[simp] theorem State.setInbox_widx (l : List Ports) (n : Nat) (s : State) : (s.setInbox l n).widx = s.widx := rfl
@[simp] theorem State.setInbox_fans (l : List Ports) (n : Nat) (s : State) : (s.setInbox l n).fans = s.fans := rfl
@[simp] theorem State.setInbox_integ (l : List Ports) (n : Nat) (s : State) : (s.setInbox l n).integ = s.integ := rfl
@[simp] theorem State.setInbox_lerr (l : List Ports) (n : Nat) (s : State) : (s.setInbox l n).lerr = s.lerr := rfl
@[simp] theorem State.setInbox_ltime (l : List Ports) (n : Nat) (s : State) : (s.setInbox l n).ltime = s.ltime := rfl
@[simp] theorem State.setInbox_lout (l : List Ports) (n : Nat) (s : State) : (s.setInbox l n).lout = s.lout := rfl
@[simp] theorem State.setInbox_duty (l : List Ports) (n : Nat) (s : State) : (s.setInbox l n).duty = s.duty := rfl
@[simp] theorem State.setInbox_rsp (l : List Ports) (n : Nat) (s : State) : (s.setInbox l n).rsp = s.rsp := rfl
@[simp] theorem State.setInbox_inbox (l : List Ports) (n : Nat) (s : State) : (s.setInbox l n).inbox = l := rfl
@[simp] theorem State.setInbox_inputDraws (l : List Ports) (n : Nat) (s : State) : (s.setInbox l n).inputDraws = n := rfl
@[simp] theorem State.setInbox_curveDraws (l : List Ports) (n : Nat) (s : State) : (s.setInbox l n).curveDraws = s.curveDraws := rfl

@[simp] theorem State.drawCurve_cfg (s : State) : s.drawCurve.cfg = s.cfg := rfl
@[simp] theorem State.drawCurve_flags (s : State) : s.drawCurve.flags = s.flags := rfl
@[simp] theorem State.drawCurve_buf (s : State) : s.drawCurve.buf = s.buf := rfl
@[simp] theorem State.drawCurve_widx (s : State) : s.drawCurve.widx = s.widx := rfl
@[simp] theorem State.drawCurve_fans (s : State) : s.drawCurve.fans = s.fans := rfl
@[simp] theorem State.drawCurve_integ (s : State) : s.drawCurve.integ = s.integ := rfl
@[simp] theorem State.drawCurve_lerr (s : State) : s.drawCurve.lerr = s.lerr := rfl
@[simp] theorem State.drawCurve_ltime (s : State) : s.drawCurve.ltime = s.ltime := rfl
@[simp] theorem State.drawCurve_lout (s : State) : s.drawCurve.lout = s.lout := rfl
@[simp] theorem State.drawCurve_duty (s : State) : s.drawCurve.duty = s.duty := rfl
@[simp] theorem State.drawCurve_rsp (s : State) : s.drawCurve.rsp = s.rsp := rfl
@[simp] theorem State.drawCurve_inbox (s : State) : s.drawCurve.inbox = s.inbox := rfl
@[simp] theorem State.drawCurve_inputDraws (s : State) : s.drawCurve.inputDraws = s.inputDraws := rfl
@[simp] theorem State.drawCurve_curveDraws (s : State) : s.drawCurve.curveDraws = s.curveDraws + 1 := rfl

@[simp] theorem State.setFlags_input (v : FlagSet) (s : State) : (s.setFlags v).input = s.input := rfl
@[simp] theorem State.setFlags_now (v : FlagSet) (s : State) : (s.setFlags v).now = s.now := rfl
@[simp] theorem State.setFlags_adc (v : FlagSet) (s : State) : (s.setFlags v).adc = s.adc := rfl
@[simp] theorem State.setFlags_levels (v : FlagSet) (s : State) : (s.setFlags v).levels = s.levels := rfl

@[simp] theorem State.setBuf_input (m : Memory) (k : BitVec 8) (s : State) : (s.setBuf m k).input = s.input := rfl
@[simp] theorem State.setBuf_now (m : Memory) (k : BitVec 8) (s : State) : (s.setBuf m k).now = s.now := rfl
@[simp] theorem State.setBuf_adc (m : Memory) (k : BitVec 8) (s : State) : (s.setBuf m k).adc = s.adc := rfl
@[simp] theorem State.setBuf_levels (m : Memory) (k : BitVec 8) (s : State) : (s.setBuf m k).levels = s.levels := rfl

@[simp] theorem State.setFans_input (f : List FanChannel) (s : State) : (s.setFans f).input = s.input := rfl
@[simp] theorem State.setFans_now (f : List FanChannel) (s : State) : (s.setFans f).now = s.now := rfl
@[simp] theorem State.setFans_adc (f : List FanChannel) (s : State) : (s.setFans f).adc = s.adc := rfl
@[simp] theorem State.setFans_levels (f : List FanChannel) (s : State) : (s.setFans f).levels = s.levels := rfl

@[simp] theorem State.setPid_input (i e : Fx) (n : Tick) (o : Fx) (s : State) : (s.setPid i e n o).input = s.input := rfl
@[simp] theorem State.setPid_now (i e : Fx) (n : Tick) (o : Fx) (s : State) : (s.setPid i e n o).now = s.now := rfl
@[simp] theorem State.setPid_adc (i e : Fx) (n : Tick) (o : Fx) (s : State) : (s.setPid i e n o).adc = s.adc := rfl
@[simp] theorem State.setPid_levels (i e : Fx) (n : Tick) (o : Fx) (s : State) : (s.setPid i e n o).levels = s.levels := rfl

@[simp] theorem State.setDuty_input (d : PerPwm) (s : State) : (s.setDuty d).input = s.input := rfl
@[simp] theorem State.setDuty_now (d : PerPwm) (s : State) : (s.setDuty d).now = s.now := rfl
@[simp] theorem State.setDuty_adc (d : PerPwm) (s : State) : (s.setDuty d).adc = s.adc := rfl
@[simp] theorem State.setDuty_levels (d : PerPwm) (s : State) : (s.setDuty d).levels = s.levels := rfl

@[simp] theorem State.setRsp_input (r : Option Response) (s : State) : (s.setRsp r).input = s.input := rfl
@[simp] theorem State.setRsp_now (r : Option Response) (s : State) : (s.setRsp r).now = s.now := rfl
@[simp] theorem State.setRsp_adc (r : Option Response) (s : State) : (s.setRsp r).adc = s.adc := rfl
@[simp] theorem State.setRsp_levels (r : Option Response) (s : State) : (s.setRsp r).levels = s.levels := rfl

@[simp] theorem State.drawCurve_input (s : State) : s.drawCurve.input = s.input := rfl
@[simp] theorem State.drawCurve_now (s : State) : s.drawCurve.now = s.now := rfl
@[simp] theorem State.drawCurve_adc (s : State) : s.drawCurve.adc = s.adc := rfl
@[simp] theorem State.drawCurve_levels (s : State) : s.drawCurve.levels = s.levels := rfl

end Sys2Proof.Machine
end

