-- ==== Sys2Proof/Laws/Exec.lean ====
section
/-! SUPPORT. What an operation can do, said once: every arm of `exec` answers a next state, which keeps the configuration,
the schedule and the count of free inputs. -/

namespace Sys2Proof.Machine

@[simp] theorem respondOk_eq (r0 r1 : Result) (s : State) :
    respondOk r0 r1 s = s.setRsp (some { status := .ok, r0 := r0, r1 := r1 }) := rfl

@[simp] theorem respondErr_eq (s : State) :
    respondErr s = s.setRsp (some { status := .err, r0 := 0#48, r1 := 0#48 }) := rfl

@[simp] theorem noResponse_eq (s : State) : noResponse s = s.setRsp none := rfl

/-- What no operation touches: the configuration and the environment's schedule (R45, R44). -/
structure KeepsFrame (s t : State) : Prop where
  cfg : t.cfg = s.cfg
  inbox : t.inbox = s.inbox
  inputDraws : t.inputDraws = s.inputDraws

theorem exec_temprd_cases (s : State) :
    (curveDefined s.cfg (bufSum s.buf) = true ∧
      exec .temprd s = .next (respondOk (fxResult (tconv s.cfg (bufSum s.buf)))
        (fxResult (meanQ16 s.cfg (bufSum s.buf))) s)) ∨
    (curveDefined s.cfg (bufSum s.buf) = false ∧
      exec .temprd s = .next (respondOk (Config.freeCurve s.curveDraws)
        (fxResult (meanQ16 s.cfg (bufSum s.buf))) s.drawCurve)) := by
  by_cases h : curveDefined s.cfg (bufSum s.buf) = true
  · exact .inl ⟨h, by simp [exec, execTemprd, h]⟩
  · exact .inr ⟨by simpa using h, by simp [exec, execTemprd, h]⟩

theorem exec_rpmrd_cases (ch : ChannelIndex) (s : State) :
    (ch.toNat < s.cfg.n ∧
      exec (.rpmrd ch) s = .next (respondOk (zext48 (fanAt s.fans ch.toNat).rpm) 0#48 s)) ∨
    (s.cfg.n ≤ ch.toNat ∧ exec (.rpmrd ch) s = .next (respondErr s)) := by
  by_cases h : ch.toNat < s.cfg.n
  · exact .inl ⟨h, by simp [exec, execRpmrd, fanLegal, h]⟩
  · exact .inr ⟨by omega, by simp [exec, execRpmrd, fanLegal, h]⟩

theorem exec_applyCh_cases (ch : ChannelIndex) (duty : Fx) (s : State) :
    (∃ c : Fin 3, ch.toNat = c.val ∧
      exec (.applyCh ch duty) s = .next (respondOk (clampDuty s.cfg c (fxOperand duty)) 0#48
        (s.setDuty (s.duty.set c (clampDuty s.cfg c (fxOperand duty)))))) ∨
    (3 ≤ ch.toNat ∧ exec (.applyCh ch duty) s = .next (respondErr s)) := by
  by_cases h : ch.toNat < 3
  · exact .inl ⟨⟨ch.toNat, h⟩, rfl, by simp [exec, execApplyCh, pwmChannel, h]⟩
  · exact .inr ⟨by omega, by simp [exec, execApplyCh, pwmChannel, h]⟩

theorem exec_evTemp_cases (s : State) :
    (s.cfg.sampleMode = .event ∧ exec .evTemp s = .next (noResponse (raiseFlags tempDue (sampleWrite s.adc s)))) ∨
    (s.cfg.sampleMode = .polled ∧ exec .evTemp s = .next (noResponse (raiseFlags tempDue s))) := by
  cases h : s.cfg.sampleMode
  · exact .inl ⟨rfl, by simp [exec, execEvTemp, h]⟩
  · exact .inr ⟨rfl, by simp [exec, execEvTemp, h]⟩

/-- Every arm answers a next state that keeps the frame. -/
theorem exec_keepsFrame (i : Instr) (s : State) : ∃ t, exec i s = .next t ∧ KeepsFrame s t := by
  cases i
  case temprd => obtain ⟨_, h⟩ | ⟨_, h⟩ := exec_temprd_cases s <;> exact ⟨_, h, rfl, rfl, rfl⟩
  case rpmrd ch => obtain ⟨_, h⟩ | ⟨_, h⟩ := exec_rpmrd_cases ch s <;> exact ⟨_, h, rfl, rfl, rfl⟩
  case applyCh ch d => obtain ⟨_, _, h⟩ | ⟨_, h⟩ := exec_applyCh_cases ch d s <;> exact ⟨_, h, rfl, rfl, rfl⟩
  case evTemp => obtain ⟨_, h⟩ | ⟨_, h⟩ := exec_evTemp_cases s <;> exact ⟨_, h, rfl, rfl, rfl⟩
  all_goals exact ⟨_, rfl, rfl, rfl, rfl⟩

/-- The next operation samples the same ports in a state that keeps the frame. -/
theorem KeepsFrame.input {s t : State} (h : KeepsFrame s t) : t.input = s.input := by
  simp [State.input, h.inbox, h.inputDraws]

end Sys2Proof.Machine
end

