-- ==== Sys2Proof/Laws/Fans.lean ====
section
/-! SUPPORT. The fan-channel file: its length is kept, and each channel is polled or windowed on its own (R137, R138). -/

namespace Sys2Proof.Machine

@[simp] theorem pollFrom_length (cfg : Cfg) (now : Tick) (levels : LevelVector) (i : Nat) (fs : List FanChannel) :
    (pollFrom cfg now levels i fs).length = fs.length := by
  induction fs generalizing i with
  | nil => rfl
  | cons f fs ih => simp [pollFrom, ih]

theorem pollFrom_getElem? (cfg : Cfg) (now : Tick) (levels : LevelVector) (i : Nat) (fs : List FanChannel) (k : Nat) :
    (pollFrom cfg now levels i fs)[k]? =
      fs[k]?.map (pollChannel cfg now (Level.ofBit (levels.getLsbD (i + k)))) := by
  induction fs generalizing i k with
  | nil => simp [pollFrom]
  | cons f fs ih =>
    cases k with
    | zero => simp [pollFrom]
    | succ k =>
      have : i + 1 + k = i + (k + 1) := by omega
      simp [pollFrom, ih, this]

/-- The poll leaves `RPM[i]` alone (R136). -/
@[simp] theorem pollChannel_rpm (cfg : Cfg) (now : Tick) (cur : Level) (f : FanChannel) :
    (pollChannel cfg now cur f).rpm = f.rpm := by
  unfold pollChannel; split <;> rfl

theorem pollChannel_discarded {cfg : Cfg} {now : Tick} {cur : Level} {f : FanChannel} (h : accepted cfg now cur f = false) :
    pollChannel cfg now cur f = f := by
  simp [pollChannel, h]

end Sys2Proof.Machine
end

