-- ==== Sys2Proof/Laws/Memory.lean ====
section
/-! SUPPORT. The sample buffer: reading after writing, and that every operation on it keeps its canonical form. -/

namespace Sys2Proof.Machine

theorem bufRead_bufWrite_same (m : Memory) {i : Nat} (v : AdcCode) (h : i < m.length) :
    bufRead (bufWrite m i v) i = v := by
  simp [bufRead, bufWrite, List.getD, h]

theorem bufRead_bufWrite_other (m : Memory) {i j : Nat} (v : AdcCode) (h : i ≠ j) :
    bufRead (bufWrite m i v) j = bufRead m j := by
  simp [bufRead, bufWrite, List.getD, List.getElem?_set_ne h]

@[simp] theorem bufWrite_length (m : Memory) (i : Nat) (v : AdcCode) : (bufWrite m i v).length = m.length := by
  simp [bufWrite]

/-- `BufWrite` keeps the canonical form. -/
@[simp] theorem bufWrite_wf (cap : Nat) (m : Memory) (i : Nat) (v : AdcCode) :
    Memory.wf cap (bufWrite m i v) = Memory.wf cap m := by
  simp [Memory.wf]

/-- The buffer after reset has the canonical form. -/
theorem resetAt_buf_wf (cfg : Cfg) (now0 : Tick) : Memory.wf cfg.cap (State.resetAt cfg now0).buf = true := by
  simp [Memory.wf, State.resetAt]

/-- `sampleWrite` keeps the canonical form. -/
theorem sampleWrite_buf_wf (v : AdcCode) (s : State) :
    Memory.wf s.cfg.cap (sampleWrite v s).buf = Memory.wf s.cfg.cap s.buf := by
  simp [sampleWrite, State.setBuf]

/-- `WIDX` stays within the buffer (R34). -/
theorem nextIndex_lt {cap : Nat} (k : BitVec 8) (h : 0 < cap) (h' : cap ≤ 256) :
    (nextIndex cap k).toNat < cap := by
  have := Nat.mod_lt (k.toNat + 1) h
  simp only [nextIndex, BitVec.toNat_ofNat]
  rw [Nat.mod_eq_of_lt (by omega)]
  exact this

/-- `WIDX` advances modulo the capacity (R120). -/
theorem nextIndex_toNat {cap : Nat} (k : BitVec 8) (h : 0 < cap) (h' : cap ≤ 256) :
    (nextIndex cap k).toNat = (k.toNat + 1) % cap := by
  have := Nat.mod_lt (k.toNat + 1) h
  simp only [nextIndex, BitVec.toNat_ofNat]
  exact Nat.mod_eq_of_lt (by omega)

/-- `SUM` as the sum of the slots (R122). -/
theorem bufSum_eq_sum (m : Memory) : bufSum m = (m.map BitVec.toNat).sum := by
  induction m with
  | nil => rfl
  | cons v m ih => simp [bufSum, ih]

end Sys2Proof.Machine
end

