-- ==== Sys2Proof/Laws/PerInstr.lean ====
section
/-! SUPPORT. Statements about every instruction as syntax, one lemma per constructor. Family `MatchesTable`: the word the
encoder gives an instruction matches the instruction's own row of rule R85 (mask and match), or its bit of rule R83. -/

namespace Sys2Proof.Laws.MatchesTable

/-- The encoding of `i` matches the row of `i`. -/
def Statement (i : Instr) : Prop := i.tableRowMatches (encode i) = true

theorem nop : Statement .nop := by unfold Statement; decide
theorem tsample : Statement .tsample := by unfold Statement; decide
theorem temprd : Statement .temprd := by unfold Statement; decide
theorem tachpoll : Statement .tachpoll := by unfold Statement; decide
theorem rpmwin : Statement .rpmwin := by unfold Statement; decide
theorem pidrd : Statement .pidrd := by unfold Statement; decide
theorem flagrd : Statement .flagrd := by unfold Statement; decide
theorem evTemp : Statement .evTemp := by unfold Statement; decide
theorem evRpm : Statement .evRpm := by unfold Statement; decide
theorem evPid : Statement .evPid := by unfold Statement; decide
theorem evTach : Statement .evTach := by unfold Statement; decide
theorem rpmrd (ch : ChannelIndex) : Statement (.rpmrd ch) := by revert ch; unfold Statement; decide
theorem flagclr (mask : FlagSet) : Statement (.flagclr mask) := by revert mask; unfold Statement; decide

theorem elapsed (reference : Tick) : Statement (.elapsed reference) := by
  simp only [Statement, Instr.tableRowMatches, encode, Instr.tableMask, Instr.tableMatch]
  rw [packWord_and _ 0xFFFFFFFF#32 _ 0xFFFF00000000#48 _ 0xF#4 _ 0xFF#8 _ (by decide), packTick_high]
  decide

theorem duetime (lastDeadline : Tick) (period : Duration) : Statement (.duetime lastDeadline period) := by
  simp only [Statement, Instr.tableRowMatches, encode, Instr.tableMask, Instr.tableMatch]
  rw [packWord_and _ 0#32 _ 0xFFFF00000000#48 _ 0xF#4 _ 0xFF#8 _ (by decide), packTick_high, BitVec.and_zero]
  decide

theorem pidupd (measured : Fx) : Statement (.pidupd measured) := by
  simp only [Statement, Instr.tableRowMatches, encode, Instr.tableMask, Instr.tableMatch]
  rw [packWord_and _ 0xFFFFFFFF#32 _ 0#48 _ 0xF#4 _ 0xFF#8 _ (by decide), BitVec.and_zero]
  decide

theorem applyDuty (duty : Fx) : Statement (.applyDuty duty) := by
  simp only [Statement, Instr.tableRowMatches, encode, Instr.tableMask, Instr.tableMatch]
  rw [packWord_and _ 0xFFFFFFFF#32 _ 0#48 _ 0xF#4 _ 0xFF#8 _ (by decide), BitVec.and_zero]
  decide

theorem applyCh (ch : ChannelIndex) (duty : Fx) : Statement (.applyCh ch duty) := by
  simp only [Statement, Instr.tableRowMatches, encode, Instr.tableMask, Instr.tableMatch]
  rw [packWord_and _ 0xFFFFFFFF#32 _ 0#48 _ 0#4 _ 0xFF#8 _ (by decide), BitVec.and_zero, BitVec.and_zero]
  decide

end Sys2Proof.Laws.MatchesTable
end

