-- ==== Sys2Proof/Laws/Step.lean ====
section
/-! SUPPORT. How an operation leaves the ports, said once, and a run taken apart at its first step. -/

namespace Sys2Proof.Machine

theorem Ports.isIdle_iff {p : Ports} (hr : p.rst = false) (hc : p.cmd = none) : p.isIdle = true ↔ p.ev = 0#4 := by
  simp [Ports.isIdle, hr, hc]

/-- What `retireCommand` makes of the state the command left (R89, R196). -/
theorem retireCommand_eq {s t : State} (h : KeepsFrame s t) (hr : s.input.rst = false) :
    retireCommand t = t.setInbox
      (if s.input.ev = 0#4 then s.inbox.tail else { s.input with cmd := none } :: s.inbox.tail)
      (if s.inbox = [] then s.inputDraws + 1 else s.inputDraws) := by
  simp [retireCommand, leavePorts, h.input, h.inbox, h.inputDraws, Ports.isIdle, hr]

/-- What `retireEvent` makes of the state the event left (R194). -/
theorem retireEvent_eq {s t : State} (h : KeepsFrame s t) (b : EventVector) (hr : s.input.rst = false)
    (hc : s.input.cmd = none) :
    retireEvent b t = t.setInbox
      (if s.input.ev &&& ~~~b = 0#4 then s.inbox.tail
        else { s.input with ev := s.input.ev &&& ~~~b } :: s.inbox.tail)
      (if s.inbox = [] then s.inputDraws + 1 else s.inputDraws) := by
  simp [retireEvent, leavePorts, h.input, h.inbox, h.inputDraws, Ports.isIdle, hr, hc]

/-- What `firstEvent` gives is an event (R83). -/
theorem firstEvent_isEvent {v : EventVector} {i : Instr} {b : EventVector} (h : firstEvent v = some (i, b)) :
    i.isEvent = true := by
  have key : ∀ v : EventVector, (firstEvent v).all (fun p => p.1.isEvent) = true := by decide
  have := key v
  rwa [h] at this

/-- A run is its first step and the run after it. -/
theorem run_succ {n : Nat} {s t : State} (h : step s = .next t) : core.run (n + 1) s = core.run n t := by
  have h' : core.step s = .next t := h
  simp only [Host.Core.run, h']

end Sys2Proof.Machine
end

