-- ==== Sys2Proof/Tests/Slice0.lean ====
section
/-! SUPPORT. The model's own tests. Every expected value is one of 95_test_vectors.md (its id is in the comment) or of a
worked example of the rule named. -/

namespace Sys2Proof.Tests

open Sys2Proof.Machine

/-- A field of the next state. -/
def after {α : Type} (o : Host.Outcome State Fault Refusal) (f : State → α) : Option α :=
  match o with
  | .next t => some (f t)
  | .fault _ => none
  | .refused _ => none

/-- The ports the next operation samples. -/
def feed (tick : Tick) (adc : AdcCode) (lvl : LevelVector) (s : State) : State :=
  { s with inbox := [{ Ports.quiet with tick := tick, adcRaw := adc, tachLevel := lvl }] }

/-- A command word presented, with events, at a tick. -/
def present (w : CommandWord) (ev : EventVector) (tick : Tick) (s : State) : State :=
  { s with inbox := [{ Ports.quiet with cmd := some w, ev := ev, tick := tick }] }

/-- `CFG_REF` with capacity 4 and two fan channels. -/
def smallCfg : Cfg := { cfgRef with cap := 4, n := 2 }

/-- Reset at tick 0 under `smallCfg`. -/
def small : State := State.resetAt smallCfg 0#32

/-- The configuration `CAL2` of V39c. -/
def cal2 : Cfg :=
  { cfgRef with
    offset := BitVec.ofInt 48 (-655360), ca := 2#48, cb := BitVec.ofInt 48 (-98304), cc := 42598400000#48
    cd := BitVec.ofInt 48 (-65536000) }

/-! ### Well-formedness -/

/-- R85: `RPMRD 12` under `N = 12`. -/
theorem test_wf_refuses_fan_channel : (Instr.rpmrd 12#4).wellFormed cfgRef = false := by decide
/-- R85: `APPLYCH 3`. -/
theorem test_wf_refuses_pwm_channel : (Instr.applyCh 3#4 0#48).wellFormed cfgRef = false := by decide
theorem test_wf_accepts_fan_channel : (Instr.rpmrd 11#4).wellFormed cfgRef = true := by decide
theorem test_cfgRef_wf : cfgRef.wf = true := by decide
/-- R46 (2). -/
theorem test_cfg_scale_checked : ({ cfgRef with rpmScale := 9 } : Cfg).wf = false := by decide
/-- R46 (4). -/
theorem test_cfg_floor_checked :
    ({ cfgRef with floor := { cfgRef.floor with ch1 := 6553601#48 } } : Cfg).wf = false := by decide

/-! ### Decoding: every constructor, by a word written out from R80, R81 and R85 -/

theorem test_decode_nop : decode cfgRef 0x000000000000000000000000#96 = .ok .nop := by decide
theorem test_decode_elapsed : decode cfgRef 0x000000000000FFFFFFF00010#96 = .ok (.elapsed 0xFFFFFFF0#32) := by decide
theorem test_decode_duetime :
    decode cfgRef 0x000002000000FFFFFF000011#96 = .ok (.duetime 0xFFFFFF00#32 0x200#32) := by decide
theorem test_decode_tsample : decode cfgRef 0x000000000000000000000020#96 = .ok .tsample := by decide
theorem test_decode_temprd : decode cfgRef 0x000000000000000000000021#96 = .ok .temprd := by decide
theorem test_decode_tachpoll : decode cfgRef 0x000000000000000000000030#96 = .ok .tachpoll := by decide
theorem test_decode_rpmwin : decode cfgRef 0x000000000000000000000031#96 = .ok .rpmwin := by decide
theorem test_decode_rpmrd : decode cfgRef 0x000000000000000000000B32#96 = .ok (.rpmrd 11#4) := by decide
theorem test_decode_pidupd : decode cfgRef 0x00000000FFFFFFFB00000040#96 = .ok (.pidupd 0xFFFFFFFB0000#48) := by decide
theorem test_decode_pidrd : decode cfgRef 0x000000000000000000000041#96 = .ok .pidrd := by decide
theorem test_decode_apply : decode cfgRef 0x000000000000000500000050#96 = .ok (.applyDuty 327680#48) := by decide
theorem test_decode_applych :
    decode cfgRef 0x000000000000006400000251#96 = .ok (.applyCh 2#4 6553600#48) := by decide
theorem test_decode_flagrd : decode cfgRef 0x000000000000000000000060#96 = .ok .flagrd := by decide
theorem test_decode_flagclr : decode cfgRef 0x000000000000000000070061#96 = .ok (.flagclr 0b111#3) := by decide
theorem test_decode_evTemp : decodeTableWord 8 0x1 = some .evTemp := by decide
theorem test_decode_evRpm : decodeTableWord 8 0x2 = some .evRpm := by decide
theorem test_decode_evPid : decodeTableWord 8 0x4 = some .evPid := by decide
theorem test_decode_evTach : decodeTableWord 8 0x8 = some .evTach := by decide
theorem test_table_word_pidupd : decodeTableWord 96 0x000000000000002D00000040 = some (.pidupd 2949120#48) := by decide
/-- V20a. -/
theorem test_illegal_opcode : decode cfgRef 0x00000000000000000000007F#96 = .error .reservedOpcode := by decide
/-- V20b: `rsv = 1`. -/
theorem test_illegal_rsv : decode cfgRef 0x000000000000000000001030#96 = .error .nonZeroField := by decide
/-- V20d: `a[32] = 1`. -/
theorem test_illegal_tick : decode cfgRef 0x000000000001000000000010#96 = .error .nonZeroField := by decide
/-- V20e: `a[3] = 1`. -/
theorem test_illegal_mask : decode cfgRef 0x000000000000000000080061#96 = .error .nonZeroField := by decide
/-- V20f: `b = 1`. -/
theorem test_illegal_nop : decode cfgRef 0x000000010000000000000000#96 = .error .nonZeroField := by decide
/-- V20g: `RPMRD 12`. -/
theorem test_illegal_channel : decode cfgRef 0x000000000000000000000C32#96 = .error .channelOutOfRange := by decide
/-- V20i: `TEMPRD` with `ch = 1`. -/
theorem test_illegal_ch : decode cfgRef 0x000000000000000000000121#96 = .error .nonZeroField := by decide
/-- V26, by the encoder. -/
theorem test_encode_applych :
    encode (.applyCh 2#4 6553600#48) = .command 0x000000000000006400000251#96 := by decide
/-- The response word of V22. -/
theorem test_response_word :
    Response.word { status := .ok, r0 := 4980820#48, r1 := 0#48 } = 0x0000000000000000004C005400#104 := by decide
/-- The response word after program P2, with a negative `r1`. -/
theorem test_response_word_negative :
    Response.word { status := .ok, r0 := 1202797#48, r1 := BitVec.ofInt 48 (-23929620) }
      = 0xFFFFFE92DCEC000000125A6D00#104 := by decide

/-! ### Clock -/

/-- S1: the 8-bit example. -/
theorem test_elapsedSince_8bit : elapsedSince 250#8 4#8 = 10#8 := by decide
/-- V16. -/
theorem test_dueTime_8bit : dueTime 250#8 10#8 4#8 = (true, 14#8) := by decide
/-- V19. -/
theorem test_elapsed :
    after (exec (.elapsed 0xFFFFFFF0#32) (feed 0x10#32 0#16 0#16 small)) State.rsp = some (okRsp 0x20#48 0#48) := by
  decide
/-- V21 (V8): the carry branch. -/
theorem test_duetime_carry :
    after (exec (.duetime 0xFFFFFF00#32 0x200#32) (feed 0xFFFFFF80#32 0#16 0#16 small)) State.rsp
      = some (okRsp 1#48 0x180#48) := by decide
/-- V13: half the range away reads as not yet due. -/
theorem test_duetime_half_range :
    after (exec (.duetime 1000#32 500#32) (feed 0x800003E8#32 0#16 0#16 small)) State.rsp
      = some (okRsp 0#48 1000#48) := by decide

/-! ### TemperatureSampler -/

/-- V39k. -/
theorem test_tsample_wraps :
    after (exec .tsample (feed 0#32 2047#16 0#16 { small with widx := 3#8 })) (fun t => (t.buf, t.widx))
      = some ([1365#16, 1365#16, 1365#16, 2047#16], 0#8) := by decide
/-- V39l. -/
theorem test_tsample_capacity_one :
    after (exec .tsample (feed 0#32 9#16 0#16 { small with cfg := { smallCfg with cap := 1 }, buf := [7#16] }))
      (fun t => (t.buf, t.widx)) = some ([9#16], 0#8) := by decide
/-- V35: the mean is floored, the curve uses the exact sum. -/
theorem test_temprd_mixed :
    after (exec .temprd { State.reset with buf := 2047#16 :: List.replicate 9 1365#16 }) State.rsp
      = some (okRsp 1739148#48 93926195#48) := by decide +kernel
/-- V39c: all four coefficients, negative `b`, `d` and offset. -/
theorem test_temprd_cal2 :
    after (exec .temprd (State.resetAt cal2 0#32)) State.rsp = some (okRsp 1317607#48 89456640#48) := by decide +kernel
/-- V39f: saturation below. -/
theorem test_tconv_saturates :
    tconv { cfgRef with cc := BitVec.ofInt 48 (-140737488355328) } 40949 = -140737488355328 := by decide
/-- V39g: a code above `ADC_MAX`. -/
theorem test_tconv_above_adcMax : tconv { cfgRef with cap := 1 } 5000 = -14155414 := by decide
/-- V38: the singular point at `R = 0`. -/
theorem test_curve_singular : curveDefined cfgRef 40950 = false := by decide

/-! ### TachometerTracker -/

/-- One channel at `LVL = 0`, `LTT = 1000`, `PCNT = 7` (worked example of R137) and one at `High`. -/
def twoFans : State :=
  { small with fans := [{ lvl := .low, ltt := 1000#32, pcnt := 7#32, rpm := 0#32 },
      { lvl := .high, ltt := 1002#32, pcnt := 0#32, rpm := 1200#32 }] }

/-- R137, worked example: elapsed 1 is discarded. -/
theorem test_tachpoll_strict :
    after (exec .tachpoll (feed 1001#32 0#16 0b11#16 twoFans)) State.fans = some twoFans.fans := by decide
/-- R137 and V49c: a rising and a falling change accepted at once. -/
theorem test_tachpoll_accepts :
    after (exec .tachpoll (feed 1010#32 0#16 0b01#16 twoFans)) State.fans
      = some [{ lvl := .high, ltt := 1010#32, pcnt := 8#32, rpm := 0#32 },
          { lvl := .low, ltt := 1010#32, pcnt := 0#32, rpm := 1200#32 }] := by decide
/-- V47: the product is reduced modulo `2^32`. -/
theorem test_rpmwin_wraps :
    after (exec .rpmwin { small with fans := [{ lvl := .high, ltt := 5#32, pcnt := 0x20000001#32, rpm := 3#32 }] })
      State.fans = some [{ lvl := .high, ltt := 5#32, pcnt := 0#32, rpm := 8#32 }] := by decide
/-- V48. -/
theorem test_rpmrd : after (exec (.rpmrd 1#4) twoFans) State.rsp = some (okRsp 1200#48 0#48) := by decide
/-- V49. -/
theorem test_rpmrd_err : after (exec (.rpmrd 2#4) twoFans) State.rsp = some errRsp := by decide

/-! ### PIDController -/

/-- V51. -/
theorem test_pidupd :
    after (exec (.pidupd 2949120#48) (feed 30000#32 0#16 0#16 State.reset))
      (fun t => (t.rsp, t.integ, t.lerr, t.ltime, t.lout))
      = some (okRsp 4980820#48 0#48, 19660800#48, 655360#48, 30000#32, 4980820#48) := by decide
/-- V52d: a negative derivative, floored; and V58's floor of the increment in another test. -/
theorem test_pidupd_derivative :
    after (exec (.pidupd 2326528#48) (feed 1007#32 0#16 0#16
        { State.resetAt { cfgRef with kd := 98304#48 } 1000#32 with integ := 65536#48, lerr := 65536#48 }))
      (fun t => (t.rsp, t.integ)) = some (okRsp 0#48 0#48, 65765#48) := by decide
/-- V52d: the derivative term itself. -/
theorem test_pid_derivative_floor :
    pidDerivative { cfgRef with kd := 98304#48 } (-32768) 7 = -7021715 := by decide
/-- V52g: a negative `KI` gives a positive bound. -/
theorem test_pid_bound_negative_ki : pidLowerBound { cfgRef with ki := BitVec.ofInt 48 (-1311) } = 163805008 := by
  decide
/-- R151: the reference bound. -/
theorem test_pid_bound_reference : pidLowerBound cfgRef = -163805007 := by decide
/-- R153, after reset. -/
theorem test_pidrd : after (exec .pidrd State.reset) State.rsp = some (okRsp 3276800#48 0#48) := by decide

/-! ### ActuationLayer -/

/-- Floors of V61. -/
def floors : Cfg := { smallCfg with floor := { ch0 := 1310720#48, ch1 := 1966080#48, ch2 := 0#48 } }

/-- V61. -/
theorem test_apply_floors :
    after (exec (.applyDuty 327680#48) (State.resetAt floors 0#32)) (fun t => (t.duty, t.rsp))
      = some ({ ch0 := 1310720#48, ch1 := 1966080#48, ch2 := 327680#48 }, okRsp 1310720#48 0#48) := by decide
/-- V61c: `APPLY #-1`. -/
theorem test_apply_negative :
    after (exec (.applyDuty 0xFFFFFFFFFFFF#48) (State.resetAt floors 0#32)) State.duty
      = some { ch0 := 1310720#48, ch1 := 1966080#48, ch2 := 0#48 } := by decide
/-- V63. -/
theorem test_applych :
    after (exec (.applyCh 2#4 6553600#48) small) (fun t => (t.duty, t.rsp))
      = some ({ ch0 := 1310720#48, ch1 := 1310720#48, ch2 := 6553600#48 }, okRsp 6553600#48 0#48) := by decide
/-- V65. -/
theorem test_applych_err :
    after (exec (.applyCh 3#4 3276800#48) small) (fun t => (t.duty, t.rsp)) = some (small.duty, errRsp) := by decide
/-- V90: the output ports after reset. -/
theorem test_pwm_after_reset : State.reset.pwmDuty 1 = 0x140000#24 := by decide

/-! ### Flags, system, events -/

theorem test_nop : after (exec .nop small) State.rsp = some (okRsp 0#48 0#48) := by decide
/-- V73. -/
theorem test_flagrd :
    after (exec .flagrd { small with flags := 0b101#3 }) (fun t => (t.rsp, t.flags))
      = some (okRsp 5#48 0#48, 0b101#3) := by decide
/-- V74. -/
theorem test_flagclr :
    after (exec (.flagclr 0b100#3) { small with flags := 0b110#3 }) (fun t => (t.rsp, t.flags))
      = some (okRsp 6#48 2#48, 0b010#3) := by decide
/-- V39i. -/
theorem test_evTemp_event :
    after (exec .evTemp (feed 0#32 2047#16 0#16 small)) (fun t => (t.buf.head?, t.widx, t.flags, t.rsp))
      = some (some 2047#16, 1#8, 0b001#3, none) := by decide
/-- V39j. -/
theorem test_evTemp_polled :
    after (exec .evTemp (feed 0#32 2047#16 0#16 (State.resetAt { smallCfg with sampleMode := .polled } 0#32)))
      (fun t => (t.buf.head?, t.widx, t.flags)) = some (some 1365#16, 0#8, 0b001#3) := by decide
theorem test_evRpm : after (exec .evRpm { small with flags := 0b001#3 }) State.flags = some 0b011#3 := by decide
/-- V71. -/
theorem test_evPid_merges : after (exec .evPid { small with flags := 0b100#3 }) State.flags = some 0b100#3 := by decide
/-- V42, by the event. -/
theorem test_evTach :
    after (exec .evTach (feed 1002#32 0#16 0b11#16 twoFans)) (fun t => (t.fans.head?.map FanChannel.pcnt, t.flags, t.rsp))
      = some (some 8#32, 0b000#3, none) := by decide

/-! ### Steps -/

/-- V21, through the port. -/
theorem test_step_command :
    after (step (present 0x000002000000FFFFFF000011#96 0#4 0xFFFFFF80#32 small)) (fun t => (t.rsp, t.inbox))
      = some (okRsp 1#48 0x180#48, []) := by decide
/-- V20h, through the port: `ERR` and nothing changed. -/
theorem test_step_illegal :
    after (step (present 0x000000000000000000050351#96 0#4 7#32 small)) (fun t => { t with rsp := none, inbox := [] })
      = some small := by decide
/-- V78, second step: the flag set with the clear is 1 afterwards. -/
theorem test_clear_and_event_together :
    after (core.run 2 (present 0x000000000000000000040061#96 0b0100#4 0#32 { small with flags := 0b100#3 })) State.flags
      = some 0b100#3 := by decide
/-- R190, R193, R194: `EV_TEMP` and `EV_TACH` presented together, after two steps. -/
theorem test_two_events :
    after (core.run 2 { twoFans with
        inbox := [{ Ports.quiet with ev := 0b1001#4, tick := 1002#32, adcRaw := 2047#16, tachLevel := 0b11#16 }] })
      (fun t => (t.buf.head?, t.widx, t.fans.head?.map FanChannel.pcnt, t.flags))
      = some (some 2047#16, 1#8, some 8#32, 0b001#3) := by decide
/-- V90, V91 as an operation: reset under a command and an event, at tick `0xFFFFFF00`. -/
theorem test_reset_operation :
    after (step { twoFans with
        flags := 0b111#3, inbox := [{ Ports.quiet with
          rst := true, cmd := some 0#96, ev := 0b0001#4, tick := 0xFFFFFF00#32 }] }) id
      = some (State.resetAt smallCfg 0xFFFFFF00#32) := by decide
/-- The harness: a table word runs as the first instruction after reset. -/
theorem test_withFetchWord :
    after (step (State.reset.withFetchWord 96 0x000000000000000000000021)) State.rsp
      = some (okRsp 1638400#48 89456640#48) := by decide +kernel
theorem test_withFetchWord_event :
    after (step (State.reset.withFetchWord 8 0x4)) State.flags = some 0b100#3 := by decide
/-- P2 steps 9 to 12 (`CTRLSTEP`, no event between). -/
theorem test_ctrlstep :
    after (runHost (Pseudo.expand smallCfg .ctrlstep) { status := .ok, r0 := 0#48, r1 := 0#48 }
        (feed 30000#32 0#16 0#16 { small with buf := [819#16, 2047#16, 1365#16, 819#16], flags := 0b101#3 }))
      (fun t => (t.lout, t.duty.ch0, t.flags)) = some (1202797#48, 1310720#48, 0b001#3) := by decide

/-! ### Witnesses: a concrete state and operands that meet the hypotheses of each statement that has some -/

theorem small_inv : small.Inv :=
  ⟨by decide, by decide, by decide, by decide, by decide, by decide, by decide⟩

/-- A state fed with ports keeps the invariant of `small`. -/
theorem fed_small_inv : (feed 5#32 7#16 1#16 small).Inv :=
  ⟨by decide, by decide, by decide, by decide, by decide, by decide, by decide⟩

theorem witness_DecodeOfEncodeIsTheInstruction : (Instr.applyCh 2#4 1#48).wellFormed smallCfg = true := by decide
theorem witness_EncodeOfDecodeIsTheWord : decode cfgRef 0xB32#96 = .ok (.rpmrd 11#4) := by decide
theorem witness_WordEncodesCommandWhenMaskMatches :
    (Instr.rpmrd 0#4).tableRowMatches (.command 0xF32#96) = true := by decide
theorem witness_EventBitsStandForTheirEvents : firstEvent 0b1010#4 = some (.evRpm, 0b0010#4) := by decide
/-- A step with `FLAGCLR 0b100` presented together with `EV_PID`. -/
def clearWithEvent : State := present 0x000000000000000000040061#96 0b0100#4 0#32 small
theorem witness_StepRunsTheDecodedCommand :
    clearWithEvent.cfg.wf = true ∧ clearWithEvent.input.rst = false ∧
    clearWithEvent.input.cmd = some 0x000000000000000000040061#96 ∧
    decode clearWithEvent.cfg 0x000000000000000000040061#96 = .ok (.flagclr 0b100#3) ∧
    ∃ t, exec (.flagclr 0b100#3) clearWithEvent = .next t :=
  ⟨by decide, by decide, by decide, by decide, _, rfl⟩
/-- A single event, and all four, presented with a `FLAGCLR`. -/
theorem witness_FlagSetSurvivesSimultaneousClear :
    clearWithEvent.input.ev.getLsbD 2 = true ∧ clearWithEvent.input.ev ≠ 0#4 ∧
    decode (present 0x70061#96 0b1111#4 0#32 small).cfg 0x70061#96 = .ok (.flagclr 0b111#3) := by decide
/-- An illegal word presented with all four events. -/
theorem witness_EventTakesEffectAfterTheCommand :
    decode small.cfg 0xFF#96 = .error .reservedOpcode ∧ (present 0xFF#96 0b1111#4 0#32 small).cfg.wf = true ∧
    (present 0xFF#96 0b1111#4 0#32 small).input.rst = false ∧
    (present 0xFF#96 0b1111#4 0#32 small).input.cmd = some 0xFF#96 ∧
    (present 0xFF#96 0b1111#4 0#32 small).input.ev ≠ 0#4 := by decide
/-- `EV_TEMP` and `EV_TACH` presented together. -/
def twoEvents : State := { small with inbox := [{ Ports.quiet with ev := 0b1001#4 }] }
theorem witness_StepRunsThePresentedEvent :
    twoEvents.cfg.wf = true ∧ twoEvents.input.rst = false ∧ twoEvents.input.cmd = none ∧
    firstEvent twoEvents.input.ev = some (.evTemp, 0b0001#4) ∧ twoEvents.input.ev ≠ 0#4 ∧
    ∃ t, exec .evTemp twoEvents = .next t :=
  ⟨by decide, by decide, by decide, by decide, by decide, _, rfl⟩
/-- `twoEvents` meets the clauses of `EV_TEMP` in `EVENT` mode and of `EV_TACH`. -/
theorem witness_PresentedEvents :
    twoEvents.input.ev.getLsbD 0 = true ∧ twoEvents.cfg.sampleMode = .event ∧ twoEvents.input.ev.getLsbD 3 = true := by
  decide
/-- The clauses of no `EV_TEMP`, of `POLLED` mode and of no `EV_TACH`. -/
theorem witness_PresentedEvents_other_units :
    ({ small with inbox := [{ Ports.quiet with ev := 0b0010#4 }] } : State).input.ev.getLsbD 0 = false ∧
    ({ small with inbox := [{ Ports.quiet with ev := 0b0010#4 }] } : State).input.ev.getLsbD 3 = false ∧
    ({ small with cfg := { smallCfg with sampleMode := .polled } } : State).cfg.wf = true := by decide
theorem witness_IllegalCommandAnswersErr :
    (present 0xFF#96 0#4 0#32 small).cfg.wf = true ∧ (present 0xFF#96 0#4 0#32 small).input.rst = false ∧
    (present 0xFF#96 0#4 0#32 small).input.cmd = some 0xFF#96 ∧ IllegalWord small.cfg 0xFF#96 :=
  ⟨by decide, by decide, by decide, by decide⟩
/-- V20b to V20i: a word for each other cause, and (b) at its boundary bits `a[32]`, `a[3]` and `b[0]`. -/
theorem witness_IllegalWord_each_cause :
    IllegalWord smallCfg 0x1030#96 ∧ IllegalWord smallCfg 0x121#96 ∧ IllegalWord smallCfg 0x10020#96 ∧
    IllegalWord smallCfg 0x1000000000010#96 ∧ IllegalWord smallCfg 0x80061#96 ∧
    IllegalWord smallCfg 0x10000000000000000#96 ∧ IllegalWord smallCfg 0x232#96 ∧ IllegalWord smallCfg 0x50351#96 ∧
    ¬ IllegalWord smallCfg 0x132#96 :=
  ⟨by decide, by decide, by decide, by decide, by decide, by decide, by decide, by decide, by decide⟩
theorem witness_IllegalConfigurationIsRefused : ({ small with cfg := { cfgRef with cap := 0 } } : State).cfg.wf = false := by
  decide
theorem witness_EventsCommute :
    ∃ a b c d, exec .evTemp small = .next a ∧ exec .evTach a = .next b ∧ exec .evTach small = .next c ∧
      exec .evTemp c = .next d :=
  ⟨_, _, _, _, rfl, rfl, rfl, rfl⟩
theorem witness_ResetAbandonsCommandAndEvents :
    ({ small with inbox := [{ Ports.quiet with rst := true, cmd := some 0#96 }] } : State).input.rst = true := by decide
theorem witness_EveryStepKeepsTheInvariant : ∃ t, small.Inv ∧ step (present 0#96 0#4 0#32 small) = .next t :=
  ⟨_, small_inv, rfl⟩
theorem witness_DueTimeFollowsItsRule :
    2 ≤ 8 ∧ 2 ^ 7 ≤ ((99#8).toNat + 2 ^ 8 - (100#8).toNat) % 2 ^ 8 ∧
    ((4#8).toNat + 2 ^ 8 - (250#8).toNat) % 2 ^ 8 < 2 ^ 7 ∧ 2 ^ 8 ≤ (250#8).toNat + (10#8).toNat ∧
    (240#8).toNat + (10#8).toNat < 2 ^ 8 := by decide
/-- V12 and V13: the last tick that fires and the first that does not. -/
theorem witness_DuetimeCommandResult :
    ((0x800003E7#32).toNat + 2 ^ 32 - (1000#32).toNat) % 2 ^ 32 < 2 ^ 31 ∧
    2 ^ 31 ≤ ((0x800003E8#32).toNat + 2 ^ 32 - (1000#32).toNat) % 2 ^ 32 := by decide
theorem witness_NextDeadlineWithinOnePeriod :
    dueTime 1000#32 500#32 1700#32 = (true, 1500#32) ∧
    (elapsedSince 1000#32 1700#32).toNat ≤ 2 * (500#32).toNat := by decide
theorem witness_BufferHoldsTheLastSamples : small.Inv ∧ [1#16, 2#16, 3#16, 4#16].length ≤ small.cfg.cap :=
  ⟨small_inv, by decide⟩
theorem witness_TemprdResult : small.Inv ∧ curveDefined small.cfg (bufSum small.buf) = true := ⟨small_inv, by decide⟩
/-- V39: every slot 0. -/
theorem witness_TemprdAtSingularPoint : bufSum ({ small with buf := List.replicate 4 0#16 } : State).buf = 0 := by decide
theorem witness_SensorCurve_defined : cfgRef.wf = true ∧ (13650 : Nat) ≠ 0 ∧ curveDen cfgRef 13650 ≠ 0 := by decide
/-- V38: the other clause. -/
theorem witness_SensorCurve_singular : curveDen cfgRef 40950 = 0 := by decide
/-- The debounce boundary of V41 and V42. -/
theorem witness_PolledChannels :
    ¬ smallCfg.debTicks < ((1001#32).toNat + 2 ^ 32 - (1000#32).toNat) % 2 ^ 32 ∧
    smallCfg.debTicks < ((1002#32).toNat + 2 ^ 32 - (1000#32).toNat) % 2 ^ 32 := by decide
theorem witness_DebounceWindow :
    accepted smallCfg 1002#32 .high { lvl := .low, ltt := 1000#32, pcnt := 0#32, rpm := 0#32 } = true ∧
    (1003#32 - 1002#32).toNat ≤ smallCfg.debTicks ∧ smallCfg.debTicks < (1010#32 - 1002#32).toNat := by decide
theorem witness_SecondWindow : ∃ t u, exec .rpmwin twoFans = .next t ∧ exec .rpmwin t = .next u := ⟨_, _, rfl, rfl⟩
theorem witness_RpmrdResult :
    (1#4).toNat < twoFans.cfg.n ∧ twoFans.fans[(1#4).toNat]? ≠ none ∧ twoFans.cfg.n ≤ (2#4).toNat := by decide
theorem witness_PulseCounters : ∃ t, exec .tachpoll twoFans = .next t ∧ twoFans.fans[0]? ≠ none :=
  ⟨_, rfl, by decide⟩
theorem witness_IntegralNeverBelowItsBound :
    small.cfg.ki.toInt ≠ 0 ∧ 0 < small.cfg.ki.toInt ∧ ∃ t, exec (.pidupd 0#48) small = .next t :=
  ⟨by decide, by decide, _, rfl⟩
theorem witness_SetpointHoldsTheBias :
    small.cfg.wf = true ∧ 0 ≤ small.cfg.ki.toInt ∧ small.integ = 0#48 ∧ small.lerr = 0#48 := by decide
theorem witness_ApplychSetsOneChannel : (2#4).toNat = (2 : Fin 3).val ∧ 3 ≤ (3#4).toNat := by decide
theorem witness_PwmPort_changes :
    ∃ t, exec (.applyDuty 6553600#48) small = .next t ∧ t.pwmDuty 0 ≠ small.pwmDuty 0 := ⟨_, rfl, by decide⟩
theorem witness_EvTempModes :
    small.cfg.sampleMode = .event ∧ ({ smallCfg with sampleMode := .polled } : Cfg).sampleMode = .polled := by decide
theorem witness_OnlyEventsSetFlags :
    ∃ t, exec .evPid small = .next t ∧ small.flags.getLsbD 2 = false ∧ t.flags.getLsbD 2 = true :=
  ⟨_, rfl, by decide, by decide⟩
theorem witness_OnlyFlagclrClears :
    ∃ t, exec (.flagclr 0b100#3) { small with flags := 0b100#3 } = .next t ∧ t.flags.getLsbD 2 = false :=
  ⟨_, rfl, by decide⟩
theorem witness_ReadingCommands : ∃ t, exec .temprd small = .next t := ⟨_, rfl⟩
theorem witness_HiddenState :
    ∃ a b, exec .pidrd small = .next a ∧
      exec .pidrd { small with widx := 3#8, lerr := 5#48, ltime := 9#32 } = .next b := ⟨_, _, rfl, rfl⟩

end Sys2Proof.Tests
end

/-! Floor division in the exact rationals (R13). -/

namespace Sys2Proof.Machine

@[simp] theorem fdiv_neg_neg (n d : Int) : fdiv (-n) (-d) = fdiv n d :=
  Int.neg_fdiv_neg n d

theorem fdiv_natCast_eq_floor (n : Int) (k : Nat) : fdiv n k = ⌊(n : ℚ) / k⌋ :=
  calc fdiv n k = n / (k : Int) := fdiv_eq_ediv k.cast_nonneg
    _ = ⌊(n : ℚ) / k⌋ := (Rat.floor_intCast_div_natCast n k).symm

/-- A negative divisor is reduced to a positive one: negating both operands changes neither the quotient nor `fdiv`.
At `d = 0`, which R13 leaves out, both sides are Lean's 0. -/
theorem fdiv_eq_floor (n d : Int) : fdiv n d = ⌊(n : ℚ) / d⌋ := by
  obtain ⟨k, rfl | rfl⟩ := d.eq_nat_or_neg
  · exact_mod_cast fdiv_natCast_eq_floor n k
  · calc fdiv n (-k) = fdiv (-n) k := by rw [← fdiv_neg_neg, neg_neg]
      _ = ⌊((-n : Int) : ℚ) / k⌋ := fdiv_natCast_eq_floor (-n) k
      _ = ⌊(n : ℚ) / ((-k : Int) : ℚ)⌋ := by push_cast; rw [div_neg, neg_div]

/-- Settles O40: the sign of the divisor is the only case split, and it goes through `fdiv_neg_neg`. -/
theorem floorDivisionRoundsDown : Obligations.FloorDivisionRoundsDown :=
  fun n d _ => ⟨fdiv_eq_floor n d, (fdiv_neg_neg n d).symm⟩

end Sys2Proof.Machine

/-! What a legal configuration gives (R46). -/

namespace Sys2Proof.Machine

theorem Cfg.cap_pos {cfg : Cfg} (h : cfg.wf = true) : 0 < cfg.cap := by
  simp only [Cfg.wf, Bool.and_eq_true, decide_eq_true_eq] at h
  omega

theorem Cfg.cap_le {cfg : Cfg} (h : cfg.wf = true) : cfg.cap ≤ 256 := by
  simp only [Cfg.wf, Bool.and_eq_true, decide_eq_true_eq] at h
  omega

theorem Cfg.prefill_lt {cfg : Cfg} (h : cfg.wf = true) : cfg.prefill < 2 ^ 16 := by
  simp only [Cfg.wf, Bool.and_eq_true, decide_eq_true_eq] at h
  omega

theorem floorLegal_iff (f : Fx) : floorLegal f = true ↔ 0 ≤ f.toInt ∧ f.toInt ≤ 6553600 := by
  simp [floorLegal]

theorem Cfg.floor_range {cfg : Cfg} (h : cfg.wf = true) (c : Fin 3) :
    0 ≤ (cfg.floor.get c).toInt ∧ (cfg.floor.get c).toInt ≤ 6553600 := by
  simp only [Cfg.wf, Bool.and_eq_true, floorLegal_iff] at h
  obtain ⟨_, ⟨h0, h1⟩, h2⟩ := h
  match c with
  | 0 => exact h0
  | 1 => exact h1
  | 2 => exact h2

end Sys2Proof.Machine

/-! What an operation writes, said once for all arms of `exec`. -/

namespace Sys2Proof.Machine

/-- The most operation `i` can write on `s`, its response apart: `Effect s i u` when `u` is a state it may leave. Writing
nothing is allowed to every operation; a write carries its owner (R49) and its guard. -/
inductive Effect (s : State) : Instr → State → Prop
  /-- The commands of R67, and those that answer `ERR`. -/
  | none (i : Instr) : Effect s i s
  /-- `TEMPRD` at a singular point (R126). -/
  | draw : Effect s .temprd s.drawCurve
  | sample : Effect s .tsample (sampleWrite s.adc s)
  | poll (i : Instr) (hi : i = .tachpoll ∨ i = .evTach) : Effect s i (pollAll s)
  | window : Effect s .rpmwin (rpmWindow s)
  | pid (m : Fx) : Effect s (.pidupd m) (pidUpdate (fxOperand m) s)
  | apply (d : Fx) : Effect s (.applyDuty d) (s.setDuty (clampAll s.cfg (fxOperand d)))
  | applyCh (ch : ChannelIndex) (d : Fx) (c : Fin 3) (hc : ch.toNat = c.val) :
      Effect s (.applyCh ch d) (s.setDuty (s.duty.set c (clampDuty s.cfg c (fxOperand d))))
  | clear (m : FlagSet) : Effect s (.flagclr m) (s.setFlags (clearedFlags s.flags m))
  | evTempEvent (hm : s.cfg.sampleMode = .event) : Effect s .evTemp (raiseFlags tempDue (sampleWrite s.adc s))
  | evTempPolled (hm : s.cfg.sampleMode = .polled) : Effect s .evTemp (raiseFlags tempDue s)
  | evRpm : Effect s .evRpm (raiseFlags rpmDue s)
  | evPid : Effect s .evPid (raiseFlags pidDue s)

/-- Every arm of `exec` is one of the effects, then the response. -/
theorem exec_effect (i : Instr) (s : State) : ∃ u r, Effect s i u ∧ exec i s = .next (u.setRsp r) := by
  cases i
  case nop | elapsed | duetime | pidrd | flagrd => exact ⟨_, _, .none _, rfl⟩
  case tsample => exact ⟨_, _, .sample, rfl⟩
  case temprd =>
    obtain ⟨_, h⟩ | ⟨_, h⟩ := exec_temprd_cases s
    · exact ⟨_, _, .none _, h⟩
    · exact ⟨_, _, .draw, h⟩
  case tachpoll => exact ⟨_, _, .poll _ (.inl rfl), rfl⟩
  case rpmwin => exact ⟨_, _, .window, rfl⟩
  case rpmrd ch => obtain ⟨_, h⟩ | ⟨_, h⟩ := exec_rpmrd_cases ch s <;> exact ⟨_, _, .none _, h⟩
  case pidupd m => exact ⟨_, _, .pid m, rfl⟩
  case applyDuty d => exact ⟨_, _, .apply d, rfl⟩
  case applyCh ch d =>
    obtain ⟨c, hc, h⟩ | ⟨_, h⟩ := exec_applyCh_cases ch d s
    · exact ⟨_, _, .applyCh ch d c hc, h⟩
    · exact ⟨_, _, .none _, h⟩
  case flagclr m => exact ⟨_, _, .clear m, rfl⟩
  case evTemp =>
    obtain ⟨hm, h⟩ | ⟨hm, h⟩ := exec_evTemp_cases s
    · exact ⟨_, _, .evTempEvent hm, h⟩
    · exact ⟨_, _, .evTempPolled hm, h⟩
  case evRpm => exact ⟨_, _, .evRpm, rfl⟩
  case evPid => exact ⟨_, _, .evPid, rfl⟩
  case evTach => exact ⟨_, _, .poll _ (.inr rfl), rfl⟩

theorem effect_of_exec {i : Instr} {s t : State} (h : exec i s = .next t) :
    ∃ u r, Effect s i u ∧ t = u.setRsp r := by
  obtain ⟨u, r, hu, hx⟩ := exec_effect i s
  exact ⟨u, r, hu, Host.Outcome.next.inj (h.symm.trans hx)⟩

/-- What a step can do: one operation, by what is presented, and how it leaves the ports. -/
theorem step_cases {s t : State} (h : step s = .next t) :
    s.cfg.wf = true ∧
    ((pendingOf s.cfg s.input = .reset ∧ t = retireAll (resetOp s)) ∨
     (∃ i u, pendingOf s.cfg s.input = .command i ∧ exec i s = .next u ∧ t = retireCommand u) ∨
     (∃ r, pendingOf s.cfg s.input = .illegal r ∧ t = retireCommand (respondErr s)) ∨
     (∃ i b u, pendingOf s.cfg s.input = .event i b ∧ exec i s = .next u ∧ t = retireEvent b u) ∨
     (pendingOf s.cfg s.input = .idle ∧ t = retireAll (noResponse s))) := by
  have hwf : s.cfg.wf = true := by
    by_contra hn
    simp [step, hn] at h
  refine ⟨hwf, ?_⟩
  simp only [step, hwf, if_true] at h
  cases hp : pendingOf s.cfg s.input with
  | reset => exact .inl ⟨rfl, by simpa [hp] using h.symm⟩
  | command i =>
    obtain ⟨u, hu, _⟩ := exec_keepsFrame i s
    exact .inr (.inl ⟨i, u, rfl, hu, by simpa [hp, hu, onNext] using h.symm⟩)
  | illegal r => exact .inr (.inr (.inl ⟨r, rfl, by simpa [hp] using h.symm⟩))
  | event i b =>
    obtain ⟨u, hu, _⟩ := exec_keepsFrame i s
    exact .inr (.inr (.inr (.inl ⟨i, b, u, rfl, hu, by simpa [hp, hu, onNext] using h.symm⟩)))
  | idle => exact .inr (.inr (.inr (.inr ⟨rfl, by simpa [hp] using h.symm⟩)))

end Sys2Proof.Machine

/-! The invariant of R48 under each write of the state. -/

namespace Sys2Proof.Machine

/-- `FLAGS`, the response, the schedule and the draw counters are not in the invariant. -/
theorem State.Inv.setFlags {s : State} (h : s.Inv) (v : FlagSet) : (s.setFlags v).Inv := { h with }
theorem State.Inv.setRsp {s : State} (h : s.Inv) (r : Option Response) : (s.setRsp r).Inv := { h with }
theorem State.Inv.setInbox {s : State} (h : s.Inv) (l : List Ports) (n : Nat) : (s.setInbox l n).Inv := { h with }
theorem State.Inv.drawCurve {s : State} (h : s.Inv) : s.drawCurve.Inv := { h with }

theorem State.Inv.setFans {s : State} (h : s.Inv) {fs : List FanChannel} (hl : fs.length = s.fans.length) :
    (s.setFans fs).Inv :=
  { h with fans_length := hl.trans h.fans_length }

theorem State.Inv.setDuty {s : State} (h : s.Inv) {d : PerPwm}
    (hd : ∀ c : Fin 3, (s.cfg.floor.get c).toInt ≤ (d.get c).toInt ∧ (d.get c).toInt ≤ 6553600) : (s.setDuty d).Inv :=
  { h with duty_range := hd }

theorem State.Inv.sampleWrite {s : State} (h : s.Inv) (v : AdcCode) : (sampleWrite v s).Inv :=
  { h with
    buf_wf := (sampleWrite_buf_wf v s).trans h.buf_wf
    widx_lt := nextIndex_lt s.widx (Cfg.cap_pos h.cfg_wf) (Cfg.cap_le h.cfg_wf) }

/-- A clamped duty is within its floor and 100.0 (R165). -/
theorem clampDuty_range {cfg : Cfg} (h : cfg.wf = true) (c : Fin 3) (d : Int) :
    (cfg.floor.get c).toInt ≤ (clampDuty cfg c d).toInt ∧ (clampDuty cfg c d).toInt ≤ 6553600 := by
  obtain ⟨hlo, hhi⟩ := Cfg.floor_range h c
  have hge := clamp_ge (x := d) hhi
  have hle := clamp_le d (cfg.floor.get c).toInt 6553600
  rw [clampDuty, toFx_toInt (by unfold fxMin; omega) (by unfold fxMax; omega)]
  exact ⟨hge, hle⟩

theorem clampAll_get (cfg : Cfg) (d : Int) (c : Fin 3) : (clampAll cfg d).get c = clampDuty cfg c d :=
  match c with
  | 0 | 1 | 2 => rfl

theorem PerPwm.get_set (p : PerPwm) (c c' : Fin 3) (v : Fx) :
    (p.set c v).get c' = if c' = c then v else p.get c' := by
  match c, c' with
  | 0, 0 | 0, 1 | 0, 2 | 1, 0 | 1, 1 | 1, 2 | 2, 0 | 2, 1 | 2, 2 => rfl

/-- The new integral is at or above the bound (R150, R151). -/
theorem pidLowerBound_le_pidIntegral (cfg : Cfg) (integ e : Int) (el : Nat) :
    pidLowerBound cfg ≤ pidIntegral cfg integ e el := by
  calc pidLowerBound cfg = sat (pidLowerBound cfg) := by simp [pidLowerBound]
    _ ≤ pidIntegral cfg integ e el := sat_mono (le_max_right _ _)

theorem toFx_pidOutput_range (p i d : Int) :
    0 ≤ (toFx (pidOutput p i d)).toInt ∧ (toFx (pidOutput p i d)).toInt ≤ 6553600 := by
  have hge : 0 ≤ pidOutput p i d := clamp_ge (by norm_num)
  have hle : pidOutput p i d ≤ 6553600 := clamp_le _ _ _
  rw [toFx_toInt (by unfold fxMin; omega) (by unfold fxMax; omega)]
  exact ⟨hge, hle⟩

theorem State.Inv.pidUpdate {s : State} (h : s.Inv) (m : Int) : (pidUpdate m s).Inv :=
  { h with
    integ_ge := fun _ => (pidLowerBound_le_pidIntegral ..).trans_eq (toFx_sat_toInt _).symm
    lout_range := toFx_pidOutput_range .. }

theorem Effect.keepsInv {s u : State} {i : Instr} (h : s.Inv) (e : Effect s i u) : u.Inv := by
  cases e with
  | none => exact h
  | draw => exact h.drawCurve
  | sample => exact h.sampleWrite _
  | poll => exact h.setFans (pollFrom_length ..)
  | window => exact h.setFans (List.length_map ..)
  | pid => exact h.pidUpdate _
  | apply d => exact h.setDuty fun c => by simpa only [clampAll_get] using clampDuty_range h.cfg_wf c _
  | applyCh ch d c =>
    refine h.setDuty fun c' => ?_
    rw [PerPwm.get_set]
    split
    · next hc => exact hc ▸ clampDuty_range h.cfg_wf c' _
    · exact h.duty_range c'
  | clear | evTempPolled | evRpm | evPid => exact h.setFlags _
  | evTempEvent => exact (h.sampleWrite _).setFlags _

theorem exec_keepsInv {s t : State} {i : Instr} (h : s.Inv) (hx : exec i s = .next t) : t.Inv := by
  obtain ⟨u, r, hu, rfl⟩ := effect_of_exec hx
  exact (hu.keepsInv h).setRsp r

/-- With `KI ≥ 0` the integral's bound is not positive (R151). -/
theorem pidLowerBound_nonpos {cfg : Cfg} (h : 0 ≤ cfg.ki.toInt) : pidLowerBound cfg ≤ 0 := by
  have himax : 0 ≤ pidImax cfg := by
    unfold pidImax
    split
    · decide
    · exact sat_mono (x := 0) (Int.fdiv_nonneg (by norm_num) h)
  exact sat_mono (y := 0) (by omega)

theorem resetAt_inv {cfg : Cfg} (h : cfg.wf = true) (now0 : Tick) : (State.resetAt cfg now0).Inv where
  cfg_wf := h
  buf_wf := resetAt_buf_wf cfg now0
  widx_lt := Cfg.cap_pos h
  fans_length := List.length_replicate
  integ_ge := pidLowerBound_nonpos
  lout_range := (by decide : 0 ≤ (3276800#48).toInt ∧ (3276800#48).toInt ≤ 6553600)
  duty_range c := ⟨le_rfl, (Cfg.floor_range h c).2⟩

theorem resetOp_inv {s : State} (h : s.cfg.wf = true) : (resetOp s).Inv :=
  { resetAt_inv h s.now with }

/-- Settles O20: by what the step can do, from the rule of each write and of reset. -/
theorem everyStepKeepsTheInvariant : Obligations.EveryStepKeepsTheInvariant := by
  intro s t h hs
  obtain ⟨hwf, ⟨-, rfl⟩ | ⟨i, u, -, hu, rfl⟩ | ⟨r, -, rfl⟩ | ⟨i, b, u, -, hu, rfl⟩ | ⟨-, rfl⟩⟩ := step_cases hs
  · exact (resetOp_inv hwf).setInbox _ _
  · exact (exec_keepsInv h hu).setInbox _ _
  · exact (h.setRsp _).setInbox _ _
  · exact (exec_keepsInv h hu).setInbox _ _
  · exact (h.setRsp _).setInbox _ _

/-- Settles O19. -/
theorem resetMeetsTheInvariant : Obligations.ResetMeetsTheInvariant :=
  ⟨fun _ now0 h => resetAt_inv h now0, resetAt_inv (by decide) 0#32⟩

end Sys2Proof.Machine

/-! The state after reset (R47) and a configuration outside the spec (U3). -/

namespace Sys2Proof.Machine

theorem resetAt_bufRead {cfg : Cfg} (h : cfg.wf = true) (now0 : Tick) {k : Nat} (hk : k < cfg.cap) :
    (bufRead (State.resetAt cfg now0).buf k).toNat = cfg.prefill := by
  have hp := Nat.mod_eq_of_lt (Cfg.prefill_lt h)
  simpa [bufRead, State.resetAt, hk] using hp

theorem resetAt_fans_getElem? (cfg : Cfg) (now0 : Tick) {i : Nat} (hi : i < cfg.n) :
    (State.resetAt cfg now0).fans[i]? = some (FanChannel.resetAt now0) := by
  simp [State.resetAt, hi]

/-- Settles O17: the two files entry by entry, the other rows by the definition of `resetAt`. -/
theorem resetStateIsTheTable : Obligations.ResetStateIsTheTable := by
  intro cfg now0 h s
  have hbuf : s.buf.length = cfg.cap := List.length_replicate
  have hfans : s.fans.length = cfg.n := List.length_replicate
  exact ⟨rfl, rfl, hbuf, fun k hk => resetAt_bufRead h now0 hk, rfl, hfans,
    fun i hi => ⟨_, resetAt_fans_getElem? cfg now0 hi, rfl, rfl, rfl, rfl⟩,
    rfl, rfl, rfl, rfl, fun _ => rfl⟩

/-- Settles O12: `step` looks at the configuration before it looks at the ports. -/
theorem illegalConfigurationIsRefused : Obligations.IllegalConfigurationIsRefused := by
  intro s h
  simp [step, h]

end Sys2Proof.Machine

/-! Who writes what (R32, R49). -/

namespace Sys2Proof.Machine

/-- What an operation can do to the flags (R32). -/
theorem exec_flags_cases {i : Instr} {s t : State} (h : exec i s = .next t) :
    t.flags = s.flags ∨ (∃ m, i = .flagclr m ∧ t.flags = s.flags &&& ~~~m) ∨
    (i = .evTemp ∧ t.flags = s.flags ||| tempDue) ∨ (i = .evRpm ∧ t.flags = s.flags ||| rpmDue) ∨
    (i = .evPid ∧ t.flags = s.flags ||| pidDue) := by
  obtain ⟨u, r, e, rfl⟩ := effect_of_exec h
  cases e with
  | clear m => exact .inr (.inl ⟨m, rfl, rfl⟩)
  | evTempEvent | evTempPolled => exact .inr (.inr (.inl ⟨rfl, rfl⟩))
  | evRpm => exact .inr (.inr (.inr (.inl ⟨rfl, rfl⟩)))
  | evPid => exact .inr (.inr (.inr (.inr ⟨rfl, rfl⟩)))
  | _ => exact .inl rfl

theorem tempDue_getLsbD (k : Nat) : tempDue.getLsbD k = decide (0 = k) := BitVec.getLsbD_twoPow 0 k
theorem rpmDue_getLsbD (k : Nat) : rpmDue.getLsbD k = decide (1 = k) := BitVec.getLsbD_twoPow 1 k
theorem pidDue_getLsbD (k : Nat) : pidDue.getLsbD k = decide (2 = k) := BitVec.getLsbD_twoPow 2 k

/-- Settles O55: bit `k` under each of the writes of the flags. -/
theorem onlyEventsSetFlagsOnlyFlagclrClears : Obligations.OnlyEventsSetFlagsOnlyFlagclrClears := by
  intro i s t k h
  obtain hf | ⟨m, rfl, hf⟩ | ⟨rfl, hf⟩ | ⟨rfl, hf⟩ | ⟨rfl, hf⟩ := exec_flags_cases h <;> rw [hf]
  · exact ⟨fun h0 h1 => by simp [h0] at h1, fun h1 h0 => by simp [h1] at h0⟩
  · refine ⟨fun h0 h1 => by simp [h0] at h1, fun h1 h0 => ⟨m, rfl, ?_⟩⟩
    have hk := BitVec.lt_of_getLsbD h1
    simpa [h1, hk] using h0
  · exact ⟨fun h0 h1 => .inl ⟨by simpa [h0, tempDue_getLsbD, eq_comm] using h1, rfl⟩, fun h1 h0 => by simp [h1] at h0⟩
  · exact ⟨fun h0 h1 => .inr (.inl ⟨by simpa [h0, rpmDue_getLsbD, eq_comm] using h1, rfl⟩),
      fun h1 h0 => by simp [h1] at h0⟩
  · exact ⟨fun h0 h1 => .inr (.inr ⟨by simpa [h0, pidDue_getLsbD, eq_comm] using h1, rfl⟩),
      fun h1 h0 => by simp [h1] at h0⟩

theorem pollFrom_map_rpm (cfg : Cfg) (now : Tick) (levels : LevelVector) (i : Nat) (fs : List FanChannel) :
    (pollFrom cfg now levels i fs).map FanChannel.rpm = fs.map FanChannel.rpm := by
  induction fs generalizing i with
  | nil => rfl
  | cons f fs ih => simp [pollFrom, ih]

/-- Settles O57: by the effect of the operation, every field outside the unit that writes is the old one; of the fans, the
poll keeps `RPM` and the window keeps `LVL` and `LTT`. -/
theorem onlyTheOwnerWritesItsState : Obligations.OnlyTheOwnerWritesItsState := by
  intro i s t h
  obtain ⟨u, r, e, rfl⟩ := effect_of_exec h
  cases e with
  | none | draw => simp
  | sample => simp [sampleWrite]
  | poll i hi => obtain rfl | rfl := hi <;> simp [pollAll, pollFrom_map_rpm]
  | window => simp [rpmWindow, windowChannel]
  | pid => simp [pidUpdate]
  | apply | applyCh => simp
  | clear => simp
  | evTempEvent hm => simp [raiseFlags, sampleWrite, hm]
  | evTempPolled | evRpm | evPid => simp [raiseFlags]

end Sys2Proof.Machine

/-! The step of a presented command or event, and the commands that read (R67, R68). -/

namespace Sys2Proof.Machine

theorem keepsFrame_of_exec {i : Instr} {s t : State} (h : exec i s = .next t) : KeepsFrame s t := by
  obtain ⟨_, hu, hf⟩ := exec_keepsFrame i s
  exact Host.Outcome.next.inj (hu.symm.trans h) ▸ hf

theorem pendingOf_command {cfg : Cfg} {p : Ports} {w : CommandWord} {i : Instr} (hr : p.rst = false)
    (hc : p.cmd = some w) (hd : decode cfg w = .ok i) : pendingOf cfg p = .command i := by
  simp [pendingOf, hr, hc, hd]

theorem pendingOf_event (cfg : Cfg) {p : Ports} {i : Instr} {b : EventVector} (hr : p.rst = false)
    (hc : p.cmd = none) (he : firstEvent p.ev = some (i, b)) : pendingOf cfg p = .event i b := by
  simp [pendingOf, hr, hc, he]

theorem step_of_command {s t : State} {i : Instr} (hwf : s.cfg.wf = true)
    (hp : pendingOf s.cfg s.input = .command i) (hx : exec i s = .next t) : step s = .next (retireCommand t) := by
  simp [step, hwf, hp, hx, onNext]

theorem step_of_event {s t : State} {i : Instr} {b : EventVector} (hwf : s.cfg.wf = true)
    (hp : pendingOf s.cfg s.input = .event i b) (hx : exec i s = .next t) : step s = .next (retireEvent b t) := by
  simp [step, hwf, hp, hx, onNext]

/-- Settles O8: the command is what is pending, and its `exec` leaves the frame that `retireCommand` reads. -/
theorem stepRunsTheDecodedCommand : Obligations.StepRunsTheDecodedCommand := by
  intro s t w i hwf hr hc hd hx
  rw [step_of_command hwf (pendingOf_command hr hc hd) hx, retireCommand_eq (keepsFrame_of_exec hx) hr]
  rfl

/-- Settles O9: the event is what is pending, and its `exec` leaves the frame that `retireEvent` reads. -/
theorem stepRunsThePresentedEvent : Obligations.StepRunsThePresentedEvent := by
  intro s t i b hwf hr hc he hx
  rw [step_of_event hwf (pendingOf_event s.cfg hr hc he) hx, retireEvent_eq (keepsFrame_of_exec hx) b hr hc]
  rfl

/-- The response is not in the state of R47's table. -/
theorem sameCore_setRsp (s : State) (r : Option Response) : SameCore s (s.setRsp r) :=
  ⟨rfl, rfl, rfl, rfl, rfl, rfl, rfl, rfl, rfl, rfl⟩

/-- Neither is the count of free values that `TEMPRD` draws at a singular point. -/
theorem sameCore_drawCurve_setRsp (s : State) (r : Option Response) : SameCore s (s.drawCurve.setRsp r) :=
  ⟨rfl, rfl, rfl, rfl, rfl, rfl, rfl, rfl, rfl, rfl⟩

/-- Settles O56: the only effects a reading command can have are to write nothing and to draw a value of the curve; every
other effect belongs to another operation. -/
theorem readingCommandsChangeNoState : Obligations.ReadingCommandsChangeNoState := by
  intro i s t hi h
  obtain ⟨u, r, e, rfl⟩ := effect_of_exec h
  cases e with
  | none => exact sameCore_setRsp s r
  | draw => exact sameCore_drawCurve_setRsp s r
  | poll _ hpoll => obtain rfl | rfl := hpoll <;> simp at hi
  | _ => simp at hi

end Sys2Proof.Machine

/-! The fields of a command word (R80): a word is its five fields, and the must-be-zero fields of R86 are zero exactly when
clearing them changes nothing, and exactly when the mask of R85 leaves the opcode alone. -/

namespace Sys2Proof

theorem getLsbD_of_extractLsb'_eq {n k m i : Nat} {v w : BitVec n} (h : v.extractLsb' k m = w.extractLsb' k m)
    (hk : k ≤ i) (hm : i < k + m) : v.getLsbD i = w.getLsbD i := by
  simpa [show i - k < m by omega, show k + (i - k) = i by omega] using congrArg (·.getLsbD (i - k)) h

/-- A command word is its five fields (R80). -/
theorem word_eq_iff_fields (v w : CommandWord) : v = w ↔
    opOf v = opOf w ∧ chOf v = chOf w ∧ rsvOf v = rsvOf w ∧ aOf v = aOf w ∧ bOf v = bOf w := by
  refine ⟨fun h => by simp [h], fun ⟨hop, hch, hrsv, ha, hb⟩ => BitVec.eq_of_getLsbD_eq fun i hi => ?_⟩
  by_cases h8 : i < 8
  · exact getLsbD_of_extractLsb'_eq hop (by omega) (by omega)
  by_cases h12 : i < 12
  · exact getLsbD_of_extractLsb'_eq hch (by omega) (by omega)
  by_cases h16 : i < 16
  · exact getLsbD_of_extractLsb'_eq hrsv (by omega) (by omega)
  by_cases h64 : i < 64
  · exact getLsbD_of_extractLsb'_eq ha (by omega) (by omega)
  · exact getLsbD_of_extractLsb'_eq hb (by omega) (by omega)

/-- The low `k` bits of `a`, as a mask gives them and as an extraction does. -/
theorem setWidth_extractLsb'_zero {n : Nat} (a : BitVec n) (k : Nat) :
    (a.extractLsb' 0 k).setWidth n = a &&& (BitVec.allOnes k).setWidth n := by
  ext i hi
  simp [hi, Bool.and_comm]

theorem and_not_low_eq_zero_iff {k m : Nat} (a : BitVec (k + m)) :
    a &&& ~~~(BitVec.allOnes k).setWidth (k + m) = 0#(k + m) ↔ a.extractLsb' k m = 0#m := by
  constructor <;> intro h <;> ext i hi
  · have hbit := congrArg (·.getLsbD (k + i)) h
    simpa [hi] using hbit
  · have hbit := congrArg (·.getLsbD (i - k)) h
    by_cases hk : i < k
    · simp [hk]
    · simpa [hk, hi, show i - k < m by omega, show k + (i - k) = i by omega] using hbit

theorem extractLsb'_aOf (w : CommandWord) {k m : Nat} (h : k + m ≤ 48) :
    (aOf w).extractLsb' k m = w.extractLsb' (16 + k) m := by
  ext i hi
  simp [aOf, show k + i < 48 by omega, Nat.add_assoc]

/-- A Tick goes back into its bits of `a`, the others cleared (R84). -/
theorem packTick_tickOf (w : CommandWord) : packTick (tickOf w) = aOf w &&& 0x0000FFFFFFFF#48 :=
  setWidth_extractLsb'_zero (aOf w) 32

/-- A flag mask goes back into its bits of `a`, the others cleared (R84). -/
theorem setWidth_maskOf (w : CommandWord) : (maskOf w).setWidth 48 = aOf w &&& 7#48 :=
  setWidth_extractLsb'_zero (aOf w) 3

/-- The formats `X` and `CX` use all of `a` (R81). -/
theorem aOf_and_ones (w : CommandWord) : aOf w &&& 0xFFFFFFFFFFFF#48 = aOf w := BitVec.and_allOnes

/-- `ch`, when the format uses it. -/
def Format.keptCh (f : Format) (w : CommandWord) : ChannelIndex := if f.usesCh then chOf w else 0#4

/-- `b`, when the format uses it. -/
def Format.keptB (f : Format) (w : CommandWord) : BitVec 32 := if f.usesB then bOf w else 0#32

/-- The word with the must-be-zero fields of its format cleared (R86). -/
def Format.keep (f : Format) (w : CommandWord) : CommandWord :=
  packWord (f.keptB w) (aOf w &&& f.aBits) (f.keptCh w) (opOf w)

theorem and_not_eq_zero_iff {n : Nat} (a m : BitVec n) : a &&& ~~~m = 0#n ↔ a &&& m = a := by
  simp only [BitVec.eq_of_getLsbD_eq_iff, BitVec.getLsbD_and, BitVec.getLsbD_not, BitVec.getLsbD_zero]
  refine forall₂_congr fun i hi => ?_
  cases a.getLsbD i <;> simp [hi]

theorem fieldsLegal_iff_fields (f : Format) (w : CommandWord) : fieldsLegal f w = true ↔
    rsvOf w = 0#4 ∧ (f.usesCh = true ∨ chOf w = 0#4) ∧ aOf w &&& ~~~f.aBits = 0#48 ∧
      (f.usesB = true ∨ bOf w = 0#32) := by
  simp [fieldsLegal, and_assoc]

theorem fieldsLegal_iff_keep (f : Format) (w : CommandWord) : fieldsLegal f w = true ↔ f.keep w = w := by
  rw [fieldsLegal_iff_fields, word_eq_iff_fields, and_not_eq_zero_iff]
  simp only [Format.keep, Format.keptCh, Format.keptB, opOf_packWord, chOf_packWord, rsvOf_packWord, aOf_packWord,
    bOf_packWord, true_and]
  cases f.usesCh <;> cases f.usesB <;> simp [eq_comm, and_left_comm]

/-- The `mask` column of R85, by format: the opcode and the must-be-zero fields. -/
def Format.mask : Format → CommandWord
  | .z => 0xFFFFFFFFFFFFFFFFFFFFFFFF#96
  | .c => 0xFFFFFFFFFFFFFFFFFFFFF0FF#96
  | .t => 0xFFFFFFFFFFFF00000000FFFF#96
  | .tt => 0x00000000FFFF00000000FFFF#96
  | .x => 0xFFFFFFFF000000000000FFFF#96
  | .cx => 0xFFFFFFFF000000000000F0FF#96
  | .m => 0xFFFFFFFFFFFFFFFFFFF8FFFF#96

theorem Format.mask_fields (f : Format) :
    opOf f.mask = 0xFF#8 ∧ chOf f.mask = (if f.usesCh then 0#4 else 0xF#4) ∧ rsvOf f.mask = 0xF#4 ∧
      aOf f.mask = ~~~f.aBits ∧ bOf f.mask = if f.usesB then 0#32 else 0xFFFFFFFF#32 := by
  cases f <;> decide

theorem opcode_fields (op : BitVec 8) : opOf (op.setWidth 96) = op ∧ chOf (op.setWidth 96) = 0#4 ∧
    rsvOf (op.setWidth 96) = 0#4 ∧ aOf (op.setWidth 96) = 0#48 ∧ bOf (op.setWidth 96) = 0#32 := by
  have h : op.setWidth 96 = packWord 0#32 0#48 0#4 op := by simp [packWord]
  simp [h]

@[simp] theorem opOf_and (v w : CommandWord) : opOf (v &&& w) = opOf v &&& opOf w := BitVec.extractLsb'_and
@[simp] theorem chOf_and (v w : CommandWord) : chOf (v &&& w) = chOf v &&& chOf w := BitVec.extractLsb'_and
@[simp] theorem rsvOf_and (v w : CommandWord) : rsvOf (v &&& w) = rsvOf v &&& rsvOf w := BitVec.extractLsb'_and
@[simp] theorem aOf_and (v w : CommandWord) : aOf (v &&& w) = aOf v &&& aOf w := BitVec.extractLsb'_and
@[simp] theorem bOf_and (v w : CommandWord) : bOf (v &&& w) = bOf v &&& bOf w := BitVec.extractLsb'_and

/-- The mask and match test of R85 is the opcode test and the must-be-zero test of R86. -/
theorem and_mask_eq_iff (f : Format) (w : CommandWord) (op : BitVec 8) :
    w &&& f.mask = op.setWidth 96 ↔ opOf w = op ∧ fieldsLegal f w = true := by
  obtain ⟨hop, hch, hrsv, ha, hb⟩ := f.mask_fields
  obtain ⟨hop', hch', hrsv', ha', hb'⟩ := opcode_fields op
  have ones8 : opOf w &&& 0xFF#8 = opOf w := BitVec.and_allOnes
  have ones4 (c : BitVec 4) : c &&& 0xF#4 = c := BitVec.and_allOnes
  have ones32 : bOf w &&& 0xFFFFFFFF#32 = bOf w := BitVec.and_allOnes
  rw [word_eq_iff_fields, fieldsLegal_iff_fields]
  simp only [opOf_and, chOf_and, rsvOf_and, aOf_and, bOf_and, *]
  cases f.usesCh <;> cases f.usesB <;> simp [*, and_left_comm]

end Sys2Proof

/-! The rows of R85: one format, one opcode and one reading of the operands each; the decoder, the encoder, the mask and the
match, each said once for all rows. -/

namespace Sys2Proof

/-- A command row of R85. -/
inductive Row where
  | nop | elapsed | duetime | tsample | temprd | tachpoll | rpmwin | rpmrd | pidupd | pidrd | applyDuty | applyCh
  | flagrd | flagclr

namespace Row

/-- The rows in the order of R85. -/
def all : List Row :=
  [nop, elapsed, duetime, tsample, temprd, tachpoll, rpmwin, rpmrd, pidupd, pidrd, applyDuty, applyCh, flagrd, flagclr]

theorem mem_all (r : Row) : r ∈ all := by cases r <;> simp [all]

/-- The format column of R85. -/
def format : Row → Format
  | nop | tsample | temprd | tachpoll | rpmwin | pidrd | flagrd => .z
  | elapsed => .t
  | duetime => .tt
  | rpmrd => .c
  | pidupd | applyDuty => .x
  | applyCh => .cx
  | flagclr => .m

/-- The opcode column of R85. -/
def opcode : Row → BitVec 8
  | nop => 0x00#8
  | elapsed => 0x10#8
  | duetime => 0x11#8
  | tsample => 0x20#8
  | temprd => 0x21#8
  | tachpoll => 0x30#8
  | rpmwin => 0x31#8
  | rpmrd => 0x32#8
  | pidupd => 0x40#8
  | pidrd => 0x41#8
  | applyDuty => 0x50#8
  | applyCh => 0x51#8
  | flagrd => 0x60#8
  | flagclr => 0x61#8

/-- The row's command with the operands of a word (R84). -/
def instr (w : CommandWord) : Row → Instr
  | nop => .nop
  | elapsed => .elapsed (tickOf w)
  | duetime => .duetime (tickOf w) (bOf w)
  | tsample => .tsample
  | temprd => .temprd
  | tachpoll => .tachpoll
  | rpmwin => .rpmwin
  | rpmrd => .rpmrd (chOf w)
  | pidupd => .pidupd (aOf w)
  | pidrd => .pidrd
  | applyDuty => .applyDuty (aOf w)
  | applyCh => .applyCh (chOf w) (aOf w)
  | flagrd => .flagrd
  | flagclr => .flagclr (maskOf w)

theorem listedOpcodes_eq : listedOpcodes = all.map fun r => r.opcode.toNat := rfl

/-- The listed opcodes are the rows' (R85, R87). -/
theorem mem_listedOpcodes_iff (op : BitVec 8) : op.toNat ∈ listedOpcodes ↔ ∃ r : Row, op = r.opcode := by
  simp [listedOpcodes_eq, mem_all, BitVec.toNat_inj, eq_comm]

theorem decodeWord_eq {r : Row} {w : CommandWord} (h : opOf w = r.opcode) :
    decodeWord w = checkFields r.format w (r.instr w) := by
  cases r <;> simp [decodeWord, h, opcode, format, instr]

theorem decodeWord_of_unlisted {w : CommandWord} (h : (opOf w).toNat ∉ listedOpcodes) :
    decodeWord w = .error .reservedOpcode := by
  simp only [listedOpcodes, List.mem_cons, not_or] at h
  simp [decodeWord, h]

theorem tableMask_instr (r : Row) (w : CommandWord) : (r.instr w).tableMask = .command r.format.mask := by
  cases r <;> rfl

theorem tableMatch_instr (r : Row) (w : CommandWord) : (r.instr w).tableMatch = .command (r.opcode.setWidth 96) := by
  cases r <;> rfl

/-- The encoder puts the operands back where they were read, the rest of the word cleared (R84, R86). -/
theorem encode_instr {r : Row} {w : CommandWord} (h : opOf w = r.opcode) :
    encode (r.instr w) = .command (r.format.keep w) := by
  cases r <;> simp [encode, instr, Format.keep, Format.keptB, Format.keptCh, Format.usesCh, Format.usesB, Format.aBits,
    format, h, opcode, packTick_tickOf, setWidth_maskOf, aOf_and_ones]

theorem encode_instr_eq_iff {r : Row} {w : CommandWord} (h : opOf w = r.opcode) :
    encode (r.instr w) = .command w ↔ fieldsLegal r.format w = true := by
  rw [encode_instr h, fieldsLegal_iff_keep, Encoded.command.injEq]

/-- Every command is a row's, with the operands its own word carries. -/
theorem exists_of_encode {i : Instr} {w : CommandWord} (h : encode i = .command w) :
    ∃ r : Row, opOf w = r.opcode ∧ r.instr w = i := by
  cases i <;> simp only [encode, Encoded.command.injEq, reduceCtorEq] at h <;> subst h
  case nop => exact ⟨nop, opOf_packWord .., rfl⟩
  case elapsed => exact ⟨elapsed, opOf_packWord .., by simp [instr, tickOf]⟩
  case duetime => exact ⟨duetime, opOf_packWord .., by simp [instr, tickOf]⟩
  case tsample => exact ⟨tsample, opOf_packWord .., rfl⟩
  case temprd => exact ⟨temprd, opOf_packWord .., rfl⟩
  case tachpoll => exact ⟨tachpoll, opOf_packWord .., rfl⟩
  case rpmwin => exact ⟨rpmwin, opOf_packWord .., rfl⟩
  case rpmrd => exact ⟨rpmrd, opOf_packWord .., by simp [instr]⟩
  case pidupd => exact ⟨pidupd, opOf_packWord .., by simp [instr]⟩
  case pidrd => exact ⟨pidrd, opOf_packWord .., rfl⟩
  case applyDuty => exact ⟨applyDuty, opOf_packWord .., by simp [instr]⟩
  case applyCh => exact ⟨applyCh, opOf_packWord .., by simp [instr]⟩
  case flagrd => exact ⟨flagrd, opOf_packWord .., rfl⟩
  case flagclr => exact ⟨flagclr, opOf_packWord .., by simp [instr, maskOf]⟩

theorem isEvent_instr (r : Row) (w : CommandWord) : (r.instr w).isEvent = false := by
  cases r <;> rfl

/-- A row's word in the table of R85: its opcode, with the must-be-zero fields of its format zero. -/
theorem tableRowMatches_instr_iff (r : Row) (v w : CommandWord) :
    (r.instr v).tableRowMatches (.command w) = true ↔ opOf w = r.opcode ∧ fieldsLegal r.format w = true := by
  simp [Instr.tableRowMatches, tableMask_instr, tableMatch_instr, ← and_mask_eq_iff]

end Row

/-! What the decoder answers, said once. -/

theorem checkFields_eq_ok_iff {f : Format} {w : CommandWord} {i j : Instr} :
    checkFields f w i = .ok j ↔ fieldsLegal f w = true ∧ i = j := by
  unfold checkFields
  split <;> simp [*]

/-- Before the value condition, the decoder is the inverse of the encoder (R85, R86). -/
theorem decodeWord_eq_ok_iff {w : CommandWord} {i : Instr} : decodeWord w = .ok i ↔ encode i = .command w := by
  constructor
  · intro h
    by_cases hw : (opOf w).toNat ∈ listedOpcodes
    · obtain ⟨r, hr⟩ := (Row.mem_listedOpcodes_iff _).1 hw
      rw [Row.decodeWord_eq hr, checkFields_eq_ok_iff] at h
      obtain ⟨hfields, rfl⟩ := h
      exact (Row.encode_instr_eq_iff hr).2 hfields
    · simp [Row.decodeWord_of_unlisted hw] at h
  · intro h
    obtain ⟨r, hr, rfl⟩ := Row.exists_of_encode h
    rw [Row.decodeWord_eq hr, checkFields_eq_ok_iff]
    exact ⟨(Row.encode_instr_eq_iff hr).1 h, rfl⟩

theorem checkChannel_eq_ok_iff {cfg : Cfg} {i j : Instr} :
    checkChannel cfg i = .ok j ↔ i = j ∧ j.wellFormed cfg = true := by
  unfold checkChannel
  split
  · next h => exact ⟨fun heq => ⟨Except.ok.inj heq, Except.ok.inj heq ▸ h⟩, fun ⟨heq, _⟩ => congrArg _ heq⟩
  · next h => exact ⟨nofun, fun ⟨heq, hj⟩ => absurd (heq ▸ hj) h⟩

/-- The decoder is the inverse of the encoder on the instructions whose channel is legal (R85, R86). -/
theorem decode_eq_ok_iff {cfg : Cfg} {w : CommandWord} {i : Instr} :
    decode cfg w = .ok i ↔ encode i = .command w ∧ i.wellFormed cfg = true := by
  rw [← decodeWord_eq_ok_iff]
  unfold decode
  cases decodeWord w with
  | ok j => simp [checkChannel_eq_ok_iff]
  | error r => simp

/-- R88 (c): the word is a command's, out of its channels. -/
theorem decode_eq_channelOutOfRange {cfg : Cfg} {w : CommandWord} {i : Instr} (h : encode i = .command w)
    (hi : i.wellFormed cfg = false) : decode cfg w = .error .channelOutOfRange := by
  simp [decode, decodeWord_eq_ok_iff.2 h, checkChannel, hi]

theorem checkFields_ne_reservedOpcode (f : Format) (w : CommandWord) (i : Instr) :
    checkFields f w i ≠ .error .reservedOpcode := by
  unfold checkFields
  split <;> simp

theorem checkChannel_ne_reservedOpcode (cfg : Cfg) (i : Instr) : checkChannel cfg i ≠ .error .reservedOpcode := by
  unfold checkChannel
  split <;> simp

theorem decodeWord_eq_reservedOpcode_iff {w : CommandWord} :
    decodeWord w = .error .reservedOpcode ↔ (opOf w).toNat ∉ listedOpcodes := by
  refine ⟨fun h hw => ?_, Row.decodeWord_of_unlisted⟩
  obtain ⟨r, hr⟩ := (Row.mem_listedOpcodes_iff _).1 hw
  exact checkFields_ne_reservedOpcode _ _ _ (Row.decodeWord_eq hr ▸ h)

/-- The value condition never gives the cause of R88 (a). -/
theorem decode_eq_reservedOpcode_iff {cfg : Cfg} {w : CommandWord} :
    decode cfg w = .error .reservedOpcode ↔ (opOf w).toNat ∉ listedOpcodes := by
  rw [← decodeWord_eq_reservedOpcode_iff]
  unfold decode
  cases decodeWord w with
  | ok i => simp [checkChannel_ne_reservedOpcode]
  | error r => rfl

theorem firstEvent_of_encode {i : Instr} {v : EventVector} (h : encode i = .event v) : firstEvent v = some (i, v) := by
  cases i <;> cases h <;> rfl

/-- Settles O3: the decoder is the inverse of the encoder. -/
theorem encodeOfDecodeIsTheWord : Obligations.EncodeOfDecodeIsTheWord :=
  fun _ _ _ => decode_eq_ok_iff.1

/-- Settles O2: the decoder is the inverse of the encoder, and each event is the first of its own bit. -/
theorem decodeOfEncodeIsTheInstruction : Obligations.DecodeOfEncodeIsTheInstruction := by
  intro cfg i hi
  cases h : encode i with
  | command w => simp [decodeEncoded, decode_eq_ok_iff.2 ⟨h, hi⟩]
  | event v => simp [decodeEncoded, firstEvent_of_encode h]

end Sys2Proof

/-! The table of R85, the reserved opcodes of R87 and the words of the vectors. -/

namespace Sys2Proof

theorem decode_eq_nop_iff {cfg : Cfg} {w : CommandWord} : decode cfg w = .ok .nop ↔ w = 0#96 := by
  have hword : encode .nop = .command 0#96 := rfl
  rw [decode_eq_ok_iff, hword, Encoded.command.injEq, eq_comm]
  exact and_iff_left rfl

/-- The row of an event is no row of R85. -/
theorem encode_of_tableRowMatches {i : Instr} {w : CommandWord} (h : i.tableRowMatches (.command w) = true) :
    ∃ v, encode i = .command v := by
  cases i
  case evTemp | evRpm | evPid | evTach => cases h
  all_goals exact ⟨_, rfl⟩

/-- Settles O4: the row's own command with the word's operands is the one decoded; it has the row's mask and match, which do
not depend on the operands. -/
theorem wordEncodesCommandWhenMaskMatches : Obligations.WordEncodesCommandWhenMaskMatches := by
  constructor
  · intro w j hj
    obtain ⟨v, hv⟩ := encode_of_tableRowMatches hj
    obtain ⟨r, -, rfl⟩ := Row.exists_of_encode hv
    obtain ⟨hop, hfields⟩ := (r.tableRowMatches_instr_iff v w).1 hj
    have henc : encode (r.instr w) = .command w := (Row.encode_instr_eq_iff hop).2 hfields
    exact ⟨r.instr w, by simp only [Row.tableMask_instr], by simp only [Row.tableMatch_instr], henc,
      fun cfg => ⟨fun h => decode_eq_ok_iff.2 ⟨henc, h⟩, decode_eq_channelOutOfRange henc⟩⟩
  · intro cfg w i h
    obtain ⟨henc, hwf⟩ := decode_eq_ok_iff.1 h
    obtain ⟨r, hop, rfl⟩ := Row.exists_of_encode henc
    exact ⟨(r.tableRowMatches_instr_iff w w).2 ⟨hop, (Row.encode_instr_eq_iff hop).1 henc⟩, hwf⟩

theorem opOf_ofNat {o : Nat} (h : o < 256) : (opOf (BitVec.ofNat 96 o)).toNat = o := by
  simp [opOf]
  omega

theorem reservedOpcodes_length :
    ((List.range 256).filter fun o => decodeWord (BitVec.ofNat 96 o) = .error .reservedOpcode).length = 242 :=
  calc _ = ((List.range 256).filter fun o => o ∉ listedOpcodes).length :=
        congrArg List.length <| List.filter_congr fun o ho => by
          simp only [decodeWord_eq_reservedOpcode_iff, opOf_ofNat (List.mem_range.1 ho)]
    _ = 242 := by decide +kernel

/-- Settles O5: the cause is the opcode exactly off the list of R85, and the encoding of `NOP` is the all-zero word. -/
theorem unlistedOpcodesAreReserved : Obligations.UnlistedOpcodesAreReserved :=
  ⟨fun _ _ => decode_eq_reservedOpcode_iff, reservedOpcodes_length, fun _ _ => decode_eq_nop_iff⟩

/-- Settles O1: each word by running the decoder. -/
theorem wordsOfTheSpecDecode : Obligations.WordsOfTheSpecDecode := by
  unfold Obligations.WordsOfTheSpecDecode
  decide

end Sys2Proof

/-! The event vector (R83) and the response word (R82). -/

namespace Sys2Proof.Machine

theorem firstEvent_eq_none_iff (v : EventVector) : firstEvent v = none ↔ v = 0#4 := by
  revert v
  decide

theorem and_eq_of_firstEvent {v : EventVector} {i : Instr} {b : EventVector} (h : firstEvent v = some (i, b)) :
    v &&& b = b ∧ firstEvent b = some (i, b) := by
  have key : ∀ v : EventVector, (firstEvent v).all fun p => v &&& p.2 = p.2 ∧ firstEvent p.2 = some p := by decide
  simpa [h] using key v

/-- Settles O6: over the 16 event vectors. -/
theorem eventBitsStandForTheirEvents : Obligations.EventBitsStandForTheirEvents :=
  ⟨rfl, rfl, rfl, rfl, fun v => ⟨firstEvent_eq_none_iff v, fun _ _ => and_eq_of_firstEvent⟩⟩

/-- One bit of a response word. -/
theorem Response.word_getLsbD (r : Response) (k : Nat) : r.word.getLsbD k =
    if k < 8 then r.status.bit.getLsbD k else if k < 56 then r.r0.getLsbD (k - 8) else r.r1.getLsbD (k - 56) := by
  simp only [Response.word, BitVec.getLsbD_or, BitVec.getLsbD_shiftLeft, BitVec.getLsbD_setWidth]
  by_cases h8 : k < 8
  · simp [h8, show k < 104 by omega, show k < 56 by omega]
  have hstatus := r.status.bit.getLsbD_of_ge k (by omega)
  by_cases h56 : k < 56
  · simp [h8, h56, hstatus, show k < 104 by omega, show k - 8 < 104 by omega]
  have hr0 := r.r0.getLsbD_of_ge (k - 8) (by omega)
  by_cases h104 : k < 104
  · simp [h8, h56, h104, hstatus, hr0, show k - 56 < 104 by omega]
  · simp [h8, h56, h104, r.r1.getLsbD_of_ge (k - 56) (by omega)]

/-- Settles O7: field by field, from the bits of the word. -/
theorem responseWordHoldsItsFields : Obligations.ResponseWordHoldsItsFields := by
  intro r
  refine ⟨?_, ?_, ?_, ?_⟩
  · have hbit : r.word.extractLsb' 0 1 = r.status.bit := by
      ext i hi
      simp [Response.word_getLsbD, show i < 8 by omega, hi]
    rw [hbit]
    cases r.status <;> rfl
  · ext i hi
    simp [Response.word_getLsbD, show 1 + i < 8 by omega]
  · ext i hi
    simp [Response.word_getLsbD, show 8 + i < 56 by omega, hi]
  · ext i hi
    simp [Response.word_getLsbD, show ¬ 56 + i < 8 by omega, hi]

end Sys2Proof.Machine

/-! R88 on the bits of the word, and the step of an illegal word. -/

namespace Sys2Proof

/-- `a[47:32]` (R86, formats `T` and `TT`). -/
theorem tickHigh_eq_zero_iff (w : CommandWord) :
    aOf w &&& ~~~Format.t.aBits = 0#48 ↔ w.extractLsb' 48 16 = 0#16 := by
  rw [← extractLsb'_aOf w (k := 32) le_rfl]
  exact and_not_low_eq_zero_iff (k := 32) (m := 16) (aOf w)

/-- `a[47:3]` (R86, format `M`). -/
theorem maskHigh_eq_zero_iff (w : CommandWord) :
    aOf w &&& ~~~Format.m.aBits = 0#48 ↔ w.extractLsb' 19 45 = 0#45 := by
  rw [← extractLsb'_aOf w (k := 3) le_rfl]
  exact and_not_low_eq_zero_iff (k := 3) (m := 45) (aOf w)

/-- R88 on the fields of the word, with the must-be-zero bits of `a` as the masks of R81 give them. -/
theorem illegalWord_iff_fields (cfg : Cfg) (w : CommandWord) : IllegalWord cfg w ↔
    (opOf w).toNat ∉ listedOpcodes ∨ rsvOf w ≠ 0#4 ∨ ((opOf w).toNat ∉ [0x32, 0x51] ∧ chOf w ≠ 0#4) ∨
    ((opOf w).toNat ∈ [0x00, 0x20, 0x21, 0x30, 0x31, 0x32, 0x41, 0x60] ∧ aOf w ≠ 0#48) ∨
    ((opOf w).toNat ∈ [0x10, 0x11] ∧ aOf w &&& ~~~Format.t.aBits ≠ 0#48) ∨
    ((opOf w).toNat = 0x61 ∧ aOf w &&& ~~~Format.m.aBits ≠ 0#48) ∨
    ((opOf w).toNat ≠ 0x11 ∧ bOf w ≠ 0#32) ∨
    ((opOf w).toNat = 0x32 ∧ cfg.n ≤ (chOf w).toNat) ∨ ((opOf w).toNat = 0x51 ∧ 3 ≤ (chOf w).toNat) := by
  simp only [ne_eq, tickHigh_eq_zero_iff, maskHigh_eq_zero_iff]
  rfl

/-- On a listed opcode R88 leaves the causes (b) and (c). -/
theorem illegalWord_iff_of_opcode (cfg : Cfg) {w : CommandWord} {r : Row} (h : opOf w = r.opcode) :
    IllegalWord cfg w ↔ ¬ (fieldsLegal r.format w = true ∧ (r.instr w).wellFormed cfg = true) := by
  rw [illegalWord_iff_fields, fieldsLegal_iff_fields, h]
  cases r <;> simp [Row.opcode, listedOpcodes, Row.format, Format.usesCh, Format.usesB, Format.aBits, Row.instr,
    Instr.wellFormed, aOf_and_ones] <;> tauto

theorem isEvent_eq_false_of_encode {i : Instr} {w : CommandWord} (h : encode i = .command w) : i.isEvent = false := by
  obtain ⟨r, -, rfl⟩ := Row.exists_of_encode h
  exact r.isEvent_instr w

/-- R88, as the bits say it, is the decoder's. -/
theorem illegalWord_iff (cfg : Cfg) (w : CommandWord) : IllegalWord cfg w ↔ ∀ i, decode cfg w ≠ .ok i := by
  by_cases hw : (opOf w).toNat ∈ listedOpcodes
  · obtain ⟨r, hr⟩ := (Row.mem_listedOpcodes_iff _).1 hw
    have hok (i : Instr) : decode cfg w = .ok i ↔
        (fieldsLegal r.format w = true ∧ r.instr w = i) ∧ i.wellFormed cfg = true := by
      rw [decode_eq_ok_iff, ← decodeWord_eq_ok_iff, Row.decodeWord_eq hr, checkFields_eq_ok_iff]
    simp [illegalWord_iff_of_opcode cfg hr, hok]
  · have herr : decode cfg w = .error .reservedOpcode := decode_eq_reservedOpcode_iff.2 hw
    exact ⟨fun _ i => by simp [herr], fun _ => .inl hw⟩

theorem exists_error_of_illegalWord {cfg : Cfg} {w : CommandWord} (h : IllegalWord cfg w) :
    ∃ r, decode cfg w = .error r := by
  cases hd : decode cfg w with
  | ok i => exact absurd hd ((illegalWord_iff cfg w).1 h i)
  | error r => exact ⟨r, rfl⟩

end Sys2Proof

namespace Sys2Proof.Machine

theorem pendingOf_illegal {cfg : Cfg} {p : Ports} {w : CommandWord} {r : Illegal} (hr : p.rst = false)
    (hc : p.cmd = some w) (hd : decode cfg w = .error r) : pendingOf cfg p = .illegal r := by
  simp [pendingOf, hr, hc, hd]

theorem step_of_illegal {s : State} {r : Illegal} (hwf : s.cfg.wf = true) (hp : pendingOf s.cfg s.input = .illegal r) :
    step s = .next (retireCommand (respondErr s)) := by
  simp [step, hwf, hp]

/-- Settles O10: an illegal word is what the decoder rejects, so `ERR` is all the step does; any other word decodes, and what
decodes has an encoding as a command. -/
theorem illegalCommandAnswersErrAndChangesNothing : Obligations.IllegalCommandAnswersErrAndChangesNothing := by
  constructor
  · intro s w hwf hrst hcmd hill
    obtain ⟨r, hr⟩ := exists_error_of_illegalWord hill
    exact ⟨_, step_of_illegal hwf (pendingOf_illegal hrst hcmd hr), rfl,
      { sameCore_setRsp s errRsp with }, rfl, fun _ => rfl⟩
  · intro cfg w hill
    obtain ⟨i, hi⟩ : ∃ i, decode cfg w = .ok i := by simpa [illegalWord_iff] using hill
    exact ⟨i, hi, isEvent_eq_false_of_encode (decode_eq_ok_iff.1 hi).1⟩

end Sys2Proof.Machine

/-! The control step as a host sequence (R91). -/

namespace Sys2Proof.Machine

theorem clampDuty_toInt {cfg : Cfg} (h : cfg.wf = true) (c : Fin 3) (d : Int) :
    (clampDuty cfg c d).toInt = min (max d (cfg.floor.get c).toInt) 6553600 := by
  obtain ⟨hlo, hhi⟩ := Cfg.floor_range h c
  exact toFx_toInt (by unfold clamp fxMin; omega) (by unfold clamp fxMax; omega)

/-- `TEMPRD` answers and writes no state of R47's table, at a singular point too (R125, R126). -/
theorem exec_temprd_sameCore (s : State) : ∃ a r, exec .temprd s = .next a ∧ a.rsp = some r ∧ SameCore s a := by
  obtain ⟨_, h⟩ | ⟨_, h⟩ := exec_temprd_cases s
  · exact ⟨_, _, h, rfl, sameCore_setRsp s _⟩
  · exact ⟨_, _, h, rfl, sameCore_drawCurve_setRsp s _⟩

/-- A host sequence, its first command taken off (R89, R90). -/
theorem runHost_cons {c : HostCommand} {last r : Response} {s a : State} (h : exec (c.resolve last) s = .next a)
    (hr : a.rsp = some r) (cs : List HostCommand) : runHost (c :: cs) last s = runHost cs r a := by
  simp [runHost, h, hr]

/-- `PIDUPD %r0; APPLY %r0; FLAGCLR`, the end of `CTRLSTEP` (R91): the controller's output goes to every duty. -/
theorem runHost_pidupd_apply_flagclr (m : FlagSet) (last : Response) (a : State) :
    let v := pidUpdate (fxOperand last.r0) a
    ∃ r, runHost [.pidupdR0, .applyR0, .fixed (.flagclr m)] last a =
      .next (((v.setDuty (clampAll a.cfg (fxOperand v.lout))).setFlags (clearedFlags a.flags m)).setRsp r) :=
  ⟨_, (runHost_cons rfl rfl _).trans <| (runHost_cons rfl rfl _).trans <| (runHost_cons rfl rfl _).trans rfl⟩

/-- Settles O59: `TEMPRD` writes nothing the rest reads but its answer; then the output just stored is clamped into every
duty. -/
theorem controlStepAppliesTheClampedOutput : Obligations.ControlStepAppliesTheClampedOutput := by
  intro s last hinv
  obtain ⟨a, r, ha, hr, hcore⟩ := exec_temprd_sameCore s
  obtain ⟨_, hrun⟩ := runHost_pidupd_apply_flagclr 0b100#3 r a
  have hinput : a.input = s.input := (keepsFrame_of_exec ha).input
  have hcfg : a.cfg = s.cfg := hcore.cfg
  refine ⟨_, (runHost_cons (c := .fixed .temprd) ha hr _).trans hrun, fun c => ?_, congrArg Ports.tick hinput,
    congrArg (· &&& 0b011#3) hcore.flags, hcore.buf, hcore.widx, hcore.fans, hcfg⟩
  rw [State.setRsp_duty, State.setFlags_duty, State.setDuty_duty, clampAll_get, hcfg]
  exact clampDuty_toInt hinv.cfg_wf c _

end Sys2Proof.Machine

/-! The Clock's two functions for every counter width (R110, R111), and the commands that answer them. -/

namespace Sys2Proof.Machine

theorem elapsedSince_toNat {w : Nat} (reference now : BitVec w) :
    (elapsedSince reference now).toNat = (now.toNat + 2 ^ w - reference.toNat) % 2 ^ w := by
  have hlt := reference.isLt
  rw [elapsedSince, BitVec.toNat_sub]
  congr 1
  omega

@[simp] theorem elapsedSince_add_left {w : Nat} (now period : BitVec w) :
    elapsedSince now (now + period) = period :=
  add_sub_cancel_left now period

/-- Settles O21: `2 ^ w` more or less is the same residue. -/
theorem elapsedIsDifferenceModuloWidth : Obligations.ElapsedIsDifferenceModuloWidth := by
  intro w reference now
  have hle : reference.toNat ≤ now.toNat + 2 ^ w := reference.isLt.le.trans (Nat.le_add_left _ _)
  calc ((elapsedSince reference now).toNat : Int)
      = ((now.toNat : Int) + 2 ^ w - reference.toNat) % 2 ^ w := by
        rw [elapsedSince_toNat, Int.natCast_mod, Nat.cast_sub hle, Nat.cast_add, Nat.cast_pow, Nat.cast_ofNat]
    _ = ((now.toNat : Int) - reference.toNat) % 2 ^ w := by rw [add_sub_right_comm, Int.add_emod_right]

/-- Settles O22: addition undoes the subtraction of R110. -/
theorem elapsedAddsBackToNow : Obligations.ElapsedAddsBackToNow := by
  intro w a b
  calc ((elapsedSince a b).toNat + a.toNat) % 2 ^ w = (b - a + a).toNat := (BitVec.toNat_add _ _).symm
    _ = b.toNat := by rw [sub_add_cancel]

/-- Without the double branch: the carry of `last + period` only chooses what the period is added to (R111). -/
theorem dueTime_eq {w : Nat} (last period now : BitVec w) : dueTime last period now =
    if (elapsedSince last now).toNat < 2 ^ (w - 1) then
      (true, (if 2 ^ w ≤ last.toNat + period.toNat then now else last) + period)
    else (false, last) := by
  unfold dueTime
  split
  · split <;> rfl
  · rfl

/-- Settles O24: the three branches of R111; without a carry the addition is exact. -/
theorem dueTimeFollowsItsRule : Obligations.DueTimeFollowsItsRule := by
  intro w last period now _
  rw [← elapsedSince_toNat, dueTime_eq]
  refine ⟨fun hpast => if_neg hpast.not_gt, fun hfired => ?_⟩
  rw [if_pos hfired]
  refine ⟨rfl, fun hcarry => ?_, fun hfits => ?_⟩
  · rw [if_pos hcarry, BitVec.toNat_add]
  · rw [if_neg hfits.not_ge, BitVec.toNat_add_of_lt hfits]

theorem zext48_toNat {w : Nat} (h : w ≤ 48) (v : BitVec w) : (zext48 v).toNat = v.toNat :=
  BitVec.toNat_setWidth_of_le h

/-- Settles O23. -/
theorem elapsedCommandResult : Obligations.ElapsedCommandResult :=
  fun s reference => ⟨zext48 (elapsedSince reference s.now), rfl,
    (zext48_toNat (by decide) _).trans (elapsedSince_toNat reference s.now)⟩

/-- Settles O25: R111 at the 32 bits of a Tick, which the answer only widens. -/
theorem duetimeCommandResult : Obligations.DuetimeCommandResult := by
  intro s last period
  obtain ⟨hpast, hfired⟩ := dueTimeFollowsItsRule 32 last period s.now (by decide)
  refine ⟨boolResult (dueTime last period s.now).1, zext48 (dueTime last period s.now).2, rfl, fun hd => ?_, fun hd => ?_⟩
  · rw [hpast hd]
    exact ⟨rfl, zext48_toNat (by decide) last⟩
  · obtain ⟨htrue, hnext⟩ := hfired hd
    rw [htrue, zext48_toNat (by decide)]
    exact ⟨rfl, hnext⟩

theorem next_of_dueTime_fired {w : Nat} {last period now next : BitVec w} (h : dueTime last period now = (true, next)) :
    next = now + period ∨ next = last + period := by
  rw [dueTime_eq] at h
  split at h
  · obtain ⟨-, rfl⟩ := Prod.mk.inj h
    split
    · exact .inl rfl
    · exact .inr rfl
  · cases h

/-- A time of at most two periods is at most one period away from `period`, on one side or the other. -/
theorem toNat_sub_le_period {w : Nat} {d period : BitVec w} (h : d.toNat ≤ 2 * period.toNat) :
    (d - period).toNat ≤ period.toNat ∨ (period - d).toNat ≤ period.toNat := by
  by_cases hle : period.toNat ≤ d.toNat
  · left
    rw [BitVec.toNat_sub_of_le (BitVec.le_def.2 hle)]
    omega
  · right
    rw [BitVec.toNat_sub_of_le (BitVec.le_def.2 (by omega))]
    omega

/-- Settles O26: the next deadline is one period after `now`, or one after a deadline that is at most two old. -/
theorem nextDeadlineWithinOnePeriod : Obligations.NextDeadlineWithinOnePeriod := by
  intro last period now next hfired hd
  obtain rfl | rfl := next_of_dueTime_fired hfired
  · right
    rw [elapsedSince_add_left]
  · have hbefore : elapsedSince (last + period) now = elapsedSince last now - period := sub_add_eq_sub_sub now last period
    have hafter : elapsedSince now (last + period) = period - elapsedSince last now := by
      rw [elapsedSince, elapsedSince, sub_sub_eq_add_sub, add_comm]
    rw [hbefore, hafter]
    exact toNat_sub_le_period hd

end Sys2Proof.Machine

/-! The sample buffer as a ring of `CAP` slots, `WIDX` the slot written next (R120, R121). -/

namespace Sys2Proof.Machine

theorem State.Inv.buf_length {s : State} (h : s.Inv) : s.buf.length = s.cfg.cap := by
  simpa [Memory.wf] using h.buf_wf

theorem State.Inv.widx_lt_length {s : State} (h : s.Inv) : s.widx.toNat < s.buf.length :=
  h.widx_lt.trans_eq h.buf_length.symm

@[simp] theorem sampleWrite_buf (v : AdcCode) (s : State) : (sampleWrite v s).buf = bufWrite s.buf s.widx.toNat v := rfl

theorem sampleWrite_widx_toNat {s : State} (h : s.Inv) (v : AdcCode) :
    (sampleWrite v s).widx.toNat = (s.widx.toNat + 1) % s.cfg.cap :=
  nextIndex_toNat s.widx (Cfg.cap_pos h.cfg_wf) (Cfg.cap_le h.cfg_wf)

/-- Settles O27: the write of R61 at a slot that the invariant places inside the buffer. -/
theorem tsampleWritesOneSlot : Obligations.TsampleWritesOneSlot := fun s h =>
  ⟨_, _, rfl, bufWrite_length .., bufRead_bufWrite_same s.buf _ h.widx_lt_length,
    fun _ hj => bufRead_bufWrite_other s.buf _ hj.symm, sampleWrite_widx_toNat h s.adc⟩

/-- Sample writes in a row, the first of the list first (R120). -/
def sampleWrites (vs : List AdcCode) (s : State) : State := vs.foldl (fun u v => sampleWrite v u) s

theorem sampleWrites_concat (vs : List AdcCode) (v : AdcCode) (s : State) :
    sampleWrites (vs ++ [v]) s = sampleWrite v (sampleWrites vs s) :=
  List.foldl_concat ..

@[simp] theorem sampleWrites_cfg (vs : List AdcCode) (s : State) : (sampleWrites vs s).cfg = s.cfg := by
  induction vs generalizing s with
  | nil => rfl
  | cons v vs ih => exact ih (sampleWrite v s)

theorem sampleWrites_inv {s : State} (h : s.Inv) (vs : List AdcCode) : (sampleWrites vs s).Inv := by
  induction vs generalizing s with
  | nil => exact h
  | cons v vs ih => exact ih (h.sampleWrite v)

theorem sampleWrites_widx_toNat {s : State} (h : s.Inv) (vs : List AdcCode) :
    (sampleWrites vs s).widx.toNat = (s.widx.toNat + vs.length) % s.cfg.cap := by
  induction vs using List.reverseRecOn with
  | nil => exact (Nat.mod_eq_of_lt h.widx_lt).symm
  | append_singleton vs v ih =>
    rw [sampleWrites_concat, sampleWrite_widx_toNat (sampleWrites_inv h vs), ih, sampleWrites_cfg, Nat.mod_add_mod,
      List.length_append, List.length_singleton, Nat.add_assoc]

/-- Within one turn of the ring different distances from `w` are different slots. -/
theorem ring_slot_inj {cap w i j : Nat} (hi : i < cap) (hj : j < cap) (h : (w + i) % cap = (w + j) % cap) : i = j :=
  (Nat.ModEq.add_left_cancel' w h).eq_of_lt_of_lt hi hj

/-- One turn of the ring reaches every slot. -/
theorem exists_ring_slot {cap w k : Nat} (hw : w < cap) (hk : k < cap) : ∃ j < cap, (w + j) % cap = k := by
  refine ⟨(k + (cap - w)) % cap, Nat.mod_lt _ (by omega), ?_⟩
  have hturn : w + (k + (cap - w)) = k + cap := by omega
  rw [Nat.add_mod_mod, hturn, Nat.add_mod_right, Nat.mod_eq_of_lt hk]

/-- Up to `CAP` writes in a row never come back to a slot they wrote: by induction on the last write, which goes to the slot
`vs.length` after the old `WIDX` and to no other (R120). -/
theorem bufRead_sampleWrites {s : State} (h : s.Inv) {vs : List AdcCode} (hvs : vs.length ≤ s.cfg.cap) {j : Nat}
    (hj : j < s.cfg.cap) :
    bufRead (sampleWrites vs s).buf ((s.widx.toNat + j) % s.cfg.cap) =
      if j < vs.length then vs.getD j 0#16 else bufRead s.buf ((s.widx.toNat + j) % s.cfg.cap) := by
  induction vs using List.reverseRecOn with
  | nil => rfl
  | append_singleton vs v ih =>
    rw [List.length_append, List.length_singleton] at hvs ⊢
    have hlast := sampleWrites_widx_toNat h vs
    rw [sampleWrites_concat, sampleWrite_buf]
    by_cases hjk : j = vs.length
    · rw [hjk, ← hlast, bufRead_bufWrite_same _ _ (sampleWrites_inv h vs).widx_lt_length]
      simp
    · have hslot : (s.widx.toNat + vs.length) % s.cfg.cap ≠ (s.widx.toNat + j) % s.cfg.cap :=
        fun he => hjk (ring_slot_inj hvs hj he).symm
      rw [hlast, bufRead_bufWrite_other _ _ hslot, ih (by omega)]
      by_cases hjv : j < vs.length
      · rw [if_pos hjv, if_pos (by omega), List.getD_append _ _ _ _ hjv]
      · rw [if_neg hjv, if_neg (by omega)]

/-- Settles O28. -/
theorem bufferHoldsTheLastSamples : Obligations.BufferHoldsTheLastSamples := fun s vs h hvs =>
  ⟨(sampleWrites_inv h vs).buf_length.trans (congrArg Cfg.cap (sampleWrites_cfg vs s)), sampleWrites_widx_toNat h vs,
    fun _ hj => bufRead_sampleWrites h hvs hj⟩

theorem eq_replicate_of_bufRead {m : Memory} {v : AdcCode} (h : ∀ k < m.length, bufRead m k = v) :
    m = List.replicate m.length v := by
  refine List.eq_replicate_of_mem fun u hu => ?_
  obtain ⟨k, hk, rfl⟩ := List.mem_iff_getElem.1 hu
  rw [← h k hk, bufRead, List.getD_eq_getElem _ _ hk]

/-- `CAP` writes of one value fill the buffer with it. -/
theorem sampleWrites_replicate_buf {s : State} (h : s.Inv) (v : AdcCode) :
    (sampleWrites (List.replicate s.cfg.cap v) s).buf = List.replicate s.cfg.cap v := by
  set vs := List.replicate s.cfg.cap v
  have hvs : vs.length = s.cfg.cap := List.length_replicate
  have hlen : (sampleWrites vs s).buf.length = s.cfg.cap := by
    rw [(sampleWrites_inv h vs).buf_length, sampleWrites_cfg]
  refine (eq_replicate_of_bufRead fun k hk => ?_).trans (congrArg (List.replicate · v) hlen)
  obtain ⟨j, hj, rfl⟩ := exists_ring_slot h.widx_lt (hlen ▸ hk)
  rw [bufRead_sampleWrites h hvs.le hj, if_pos (hvs ▸ hj)]
  exact List.getD_replicate _ hj

end Sys2Proof.Machine

/-! The mean (R122) and the answers of `TEMPRD` (R125, R126). -/

namespace Sys2Proof.Machine

theorem bufSum_le (m : Memory) : bufSum m ≤ m.length * 65535 := by
  induction m with
  | nil => exact le_rfl
  | cons v m ih =>
    have hv : v.toNat < 65536 := v.isLt
    simp only [bufSum, List.length_cons]
    omega

theorem bufSum_replicate (n : Nat) (v : AdcCode) : bufSum (List.replicate n v) = n * v.toNat := by
  simp [bufSum_eq_sum]

theorem meanQ16_eq_natCast (cfg : Cfg) (sum : Nat) : meanQ16 cfg sum = ((sum * 65536 / cfg.cap : Nat) : Int) := by
  rw [meanQ16, fdiv_eq_ediv (Int.natCast_nonneg _)]
  norm_cast

/-- The mean of 16-bit slots has 32 bits, so the result field holds it unchanged (R82, R122). -/
theorem fxResult_meanQ16_toNat {s : State} (h : s.Inv) :
    ((fxResult (meanQ16 s.cfg (bufSum s.buf))).toNat : Int) = (bufSum s.buf : Int) * 65536 / s.cfg.cap := by
  have hsum : bufSum s.buf ≤ s.cfg.cap * 65535 := h.buf_length ▸ bufSum_le s.buf
  have hmean : bufSum s.buf * 65536 / s.cfg.cap ≤ 65535 * 65536 := Nat.div_le_of_le_mul (by omega)
  rw [meanQ16_eq_natCast, fxResult, toFx, BitVec.ofInt_natCast, BitVec.toNat_ofNat, Nat.mod_eq_of_lt (by omega)]
  norm_cast

/-- Settles O29: the buffer is `CAP` copies of the sample, and both outcomes of `TEMPRD` answer the mean. -/
theorem meanOfIdenticalSamplesIsExact : Obligations.MeanOfIdenticalSamplesIsExact := by
  intro s v h
  let t := sampleWrites (List.replicate s.cfg.cap v) s
  have hcap : (s.cfg.cap : Int) ≠ 0 := Int.natCast_ne_zero.2 (Cfg.cap_pos h.cfg_wf).ne'
  have hsum : bufSum t.buf = s.cfg.cap * v.toNat := by rw [sampleWrites_replicate_buf h v, bufSum_replicate]
  have hmean : ((fxResult (meanQ16 t.cfg (bufSum t.buf))).toNat : Int) = v.toNat * 65536 := by
    rw [fxResult_meanQ16_toNat (sampleWrites_inv h _), hsum, sampleWrites_cfg, Nat.cast_mul, mul_assoc,
      Int.mul_ediv_cancel_left _ hcap]
  obtain ⟨-, hx⟩ | ⟨-, hx⟩ := exec_temprd_cases t <;> exact ⟨_, _, _, hx, rfl, by exact_mod_cast hmean⟩

theorem exec_temprd_of_defined {s : State} (h : curveDefined s.cfg (bufSum s.buf) = true) :
    exec .temprd s = .next (s.setRsp (okRsp (fxResult (tconv s.cfg (bufSum s.buf)))
      (fxResult (meanQ16 s.cfg (bufSum s.buf))))) :=
  ((exec_temprd_cases s).resolve_right (by simp [h])).2

theorem exec_temprd_of_singular {s : State} (h : curveDefined s.cfg (bufSum s.buf) = false) :
    exec .temprd s = .next (s.drawCurve.setRsp (okRsp (Config.freeCurve s.curveDraws)
      (fxResult (meanQ16 s.cfg (bufSum s.buf))))) :=
  ((exec_temprd_cases s).resolve_left (by simp [h])).2

theorem curveDefined_iff (cfg : Cfg) (sum : Nat) : curveDefined cfg sum = true ↔ sum ≠ 0 ∧ curveDen cfg sum ≠ 0 := by
  simp [curveDefined]

theorem curveDefined_eq_false_iff (cfg : Cfg) (sum : Nat) :
    curveDefined cfg sum = false ↔ sum = 0 ∨ curveDen cfg sum = 0 := by
  simp [curveDefined, or_iff_not_imp_left]

/-- Settles O30: the answers of the defined branch; the products of `num` stand in another order. -/
theorem temprdResult : Obligations.TemprdResult := by
  intro s h
  rw [← bufSum_eq_sum]
  intro sum p q den num hsum hden
  have hdef : curveDefined s.cfg (bufSum s.buf) = true := (curveDefined_iff _ _).2 ⟨Int.natCast_ne_zero.1 hsum, hden⟩
  have hnum : num = curveNum s.cfg (bufSum s.buf) := by
    simp only [num, mul_assoc]
    rfl
  have htemp : (fxResult (tconv s.cfg (bufSum s.buf))).toInt = sat (s.cfg.offset.toInt + fdiv num den) := by
    rw [hnum]
    exact toFx_sat_toInt _
  exact ⟨_, _, exec_temprd_of_defined hdef, htemp, fxResult_meanQ16_toNat h⟩

/-- Settles O31: the other branch, taken exactly at the two points of R126. -/
theorem temprdAtSingularPointIsUnconstrained : Obligations.TemprdAtSingularPointIsUnconstrained := by
  intro s h
  rw [← bufSum_eq_sum]
  intro sum p q hsing
  have hdef : curveDefined s.cfg (bufSum s.buf) = false :=
    (curveDefined_eq_false_iff _ _).2 (hsing.imp_left Int.natCast_eq_zero.1)
  exact ⟨_, exec_temprd_of_singular hdef, fxResult_meanQ16_toNat h⟩

end Sys2Proof.Machine

/-! The sensor curve in the exact rationals (R123, R124): the resistance is `P / Q`. -/

namespace Sys2Proof.Machine

theorem curveQ_ne_zero {sum : Nat} (h : sum ≠ 0) : (curveQ sum : ℚ) ≠ 0 := by
  simpa [curveQ] using h

/-- The resistance of R123 on the exact mean reading, as the integers `P` and `Q` of R124. -/
theorem resistance_eq {cfg : Cfg} {sum : Nat} (hcap : 0 < cfg.cap) (hsum : sum ≠ 0) :
    ((cfg.adcMax : ℚ) / ((sum : ℚ) / cfg.cap) - 1) * ((cfg.rdiv.toInt : ℚ) / 65536) =
      (curveP cfg sum : ℚ) / curveQ sum := by
  have hs : (sum : ℚ) ≠ 0 := Nat.cast_ne_zero.2 hsum
  have hc : (cfg.cap : ℚ) ≠ 0 := Nat.cast_ne_zero.2 hcap.ne'
  unfold curveP curveQ
  push_cast
  field_simp

theorem resistance_sub_cd (cfg : Cfg) {sum : Nat} (hsum : sum ≠ 0) :
    (curveP cfg sum : ℚ) / curveQ sum - (cfg.cd.toInt : ℚ) / 65536 =
      (curveDen cfg sum : ℚ) / (65536 * (curveQ sum : ℚ) ^ 2) := by
  have hq := curveQ_ne_zero hsum
  unfold curveDen
  push_cast
  field_simp

theorem curvePolynomial_eq (cfg : Cfg) {sum : Nat} (hsum : sum ≠ 0) :
    let res : ℚ := (curveP cfg sum : ℚ) / curveQ sum
    (cfg.ca.toInt : ℚ) / 65536 * res ^ 2 + (cfg.cb.toInt : ℚ) / 65536 * res + (cfg.cc.toInt : ℚ) / 65536 =
      (curveNum cfg sum : ℚ) / (65536 ^ 2 * (curveQ sum : ℚ) ^ 2) := by
  have hq := curveQ_ne_zero hsum
  unfold curveNum
  push_cast
  field_simp

theorem curveDen_eq_zero_iff (cfg : Cfg) {sum : Nat} (hsum : sum ≠ 0) :
    curveDen cfg sum = 0 ↔ (curveP cfg sum : ℚ) / curveQ sum = (cfg.cd.toInt : ℚ) / 65536 := by
  have hq := curveQ_ne_zero hsum
  rw [← sub_eq_zero (a := _ / _), resistance_sub_cd cfg hsum]
  simp [hq]

/-- Settles O32: with the resistance `P / Q`, the temperature in units of `2^-16` is `OFFSET + num / den`, and `fdiv` is its
floor (R13). -/
theorem sensorCurveIsExactAndRoundedOnce : Obligations.SensorCurveIsExactAndRoundedOnce := by
  intro cfg sum hwf hsum reading real res temp
  have hres : res = (curveP cfg sum : ℚ) / curveQ sum := resistance_eq (Cfg.cap_pos hwf) hsum
  have hden : curveDen cfg sum = 0 ↔ res = real cfg.cd := hres ▸ curveDen_eq_zero_iff cfg hsum
  refine ⟨hden, fun hne => ?_⟩
  have hden0 : (curveDen cfg sum : ℚ) ≠ 0 := Int.cast_ne_zero.2 (mt hden.1 hne)
  have hq := curveQ_ne_zero hsum
  have htemp : 65536 * temp = cfg.offset.toInt + (curveNum cfg sum : ℚ) / curveDen cfg sum := by
    simp only [temp, hres, real]
    rw [resistance_sub_cd cfg hsum, curvePolynomial_eq cfg hsum]
    field_simp
  rw [tconv, fdiv_eq_floor, htemp, Int.floor_intCast_add]
  rfl

end Sys2Proof.Machine

/-! The tachometer: the debounced poll (R136, R137), the RPM window (R138, R139) and `RPMRD` (R140). -/

namespace Sys2Proof.Machine

/-- The rule of R136, the difference of R110 for the ticks passed. -/
theorem accepted_iff {cfg : Cfg} {now : Tick} {cur : Level} {f : FanChannel} :
    accepted cfg now cur f = true ↔ cur ≠ f.lvl ∧ cfg.debTicks < (elapsedSince f.ltt now).toNat := by
  simp [accepted]

theorem pollChannel_accepted {cfg : Cfg} {now : Tick} {cur : Level} {f : FanChannel} (h : accepted cfg now cur f = true) :
    pollChannel cfg now cur f =
      { f with lvl := cur, ltt := now, pcnt := if cur = cfg.riseLevel then f.pcnt + 1#32 else f.pcnt } :=
  if_pos h

theorem pollChannel_pcnt_cases (cfg : Cfg) (now : Tick) (cur : Level) (f : FanChannel) :
    (pollChannel cfg now cur f).pcnt = f.pcnt ∨ (pollChannel cfg now cur f).pcnt = f.pcnt + 1#32 := by
  cases h : accepted cfg now cur f with
  | false => exact .inl (by rw [pollChannel_discarded h])
  | true =>
    rw [pollChannel_accepted h]
    exact (ite_eq_or_eq ..).symm

/-- The poll of the whole file is R136 on each channel (R137). -/
theorem pollFrom_polledChannels (cfg : Cfg) (p : Ports) (fs : List FanChannel) :
    PolledChannels cfg p fs (pollFrom cfg p.tick p.tachLevel 0 fs) := by
  refine ⟨pollFrom_length .., fun i f hf => ⟨pollChannel cfg p.tick (Level.ofBit (p.tachLevel.getLsbD i)) f, ?_,
    pollChannel_rpm .., ?_⟩⟩
  · rw [pollFrom_getElem?, hf, Nat.zero_add, Option.map_some]
  intro cur elapsed
  have hiff : accepted cfg p.tick cur f = true ↔ cur ≠ f.lvl ∧ cfg.debTicks < elapsed := by
    rw [accepted_iff, elapsedSince_toNat]
  rw [← hiff]
  constructor
  · intro h
    have hg := pollChannel_accepted h
    have hpcnt := congrArg FanChannel.pcnt hg
    exact ⟨congrArg FanChannel.lvl hg, congrArg FanChannel.ltt hg,
      fun hrise => (congrArg BitVec.toNat (hpcnt.trans (if_pos hrise))).trans (BitVec.toNat_add ..),
      fun hfall => hpcnt.trans (if_neg hfall)⟩
  · exact fun h => pollChannel_discarded (Bool.eq_false_of_not_eq_true h)

/-- Settles O33. -/
theorem tachpollPollsEveryChannel : Obligations.TachpollPollsEveryChannel :=
  fun s => ⟨_, rfl, pollFrom_polledChannels s.cfg s.input s.fans⟩

/-- Settles O35: the accepted transition leaves `LVL = c₁` and `LTT = n₁`, and the rule of R136 is asked again from there. -/
theorem debounceWindowRejectsAndReopens : Obligations.DebounceWindowRejectsAndReopens := by
  intro cfg f c₁ c₂ n₁ n₂ h₁ g
  have hg : g = _ := pollChannel_accepted h₁
  have hagain : accepted cfg n₂ c₂ g = true ↔ c₂ ≠ c₁ ∧ cfg.debTicks < (n₂ - n₁).toNat := by
    rw [accepted_iff, hg]
    rfl
  refine ⟨fun hwithin => pollChannel_discarded ?_, fun hafter hne => ?_⟩
  · exact Bool.eq_false_of_not_eq_true fun h => hwithin.not_gt (hagain.1 h).2
  · rw [pollChannel_accepted (hagain.2 ⟨hne, hafter⟩)]
    exact ⟨rfl, rfl, rfl⟩

theorem rpmWindow_getElem? (s : State) (k : Nat) : (rpmWindow s).fans[k]? = s.fans[k]?.map (windowChannel s.cfg) :=
  List.getElem?_map

theorem windowChannel_rpm_toNat (cfg : Cfg) (f : FanChannel) :
    (windowChannel cfg f).rpm.toNat = f.pcnt.toNat * cfg.rpmScale % 2 ^ 32 :=
  BitVec.toNat_ofNat ..

theorem windowChannel_rpm_of_pcnt_eq_zero (cfg : Cfg) {f : FanChannel} (h : f.pcnt = 0#32) :
    (windowChannel cfg f).rpm = 0#32 := by
  simp [windowChannel, h]

/-- Settles O36. -/
theorem rpmwinScalesAndClears : Obligations.RpmwinScalesAndClears := fun s =>
  ⟨_, rfl, List.length_map .., fun i f hf => ⟨windowChannel s.cfg f, by rw [rpmWindow_getElem?, hf]; rfl,
    windowChannel_rpm_toNat s.cfg f, rfl, rfl, rfl⟩⟩

theorem eq_of_exec_rpmwin {s t : State} (h : exec .rpmwin s = .next t) : t = (rpmWindow s).setRsp (okRsp 0#48 0#48) :=
  (Host.Outcome.next.inj h).symm

/-- Settles O37: a channel after two windows is the window of a channel whose counter the first one cleared. -/
theorem secondWindowWithoutPulsesIsZero : Obligations.SecondWindowWithoutPulsesIsZero := by
  intro s t u hs ht i g hg
  rw [eq_of_exec_rpmwin ht, State.setRsp_fans, rpmWindow_getElem?, eq_of_exec_rpmwin hs, State.setRsp_fans,
    rpmWindow_getElem?, Option.map_map, Option.map_eq_some_iff] at hg
  obtain ⟨f, -, rfl⟩ := hg
  exact ⟨windowChannel_rpm_of_pcnt_eq_zero _ rfl, rfl⟩

/-- Settles O39: of the effects of R49 only the poll and the window write the fan channels. -/
theorem pulseCountersMoveByOneOrClear : Obligations.PulseCountersMoveByOneOrClear := by
  intro i s t k f h hf
  obtain ⟨u, r, e, rfl⟩ := effect_of_exec h
  rw [State.setRsp_fans]
  cases e with
  | poll i hi =>
    refine ⟨_, (pollFrom_getElem? ..).trans (congrArg _ hf), ?_⟩
    exact (pollChannel_pcnt_cases ..).imp_right fun hp => .inl ⟨hp, hi⟩
  | window => exact ⟨_, (rpmWindow_getElem? s k).trans (congrArg _ hf), .inr (.inr ⟨rfl, rfl⟩)⟩
  | _ => exact ⟨f, hf, .inl rfl⟩

theorem fanAt_of_getElem? {fs : List FanChannel} {k : Nat} {f : FanChannel} (h : fs[k]? = some f) : fanAt fs k = f := by
  simp [fanAt, h]

/-- Settles O38: the range check of R62 decides between the two answers. -/
theorem rpmrdResult : Obligations.RpmrdResult := by
  constructor
  · intro s ch f hch hf
    obtain ⟨-, hx⟩ | ⟨hout, -⟩ := exec_rpmrd_cases ch s
    · rw [hx, fanAt_of_getElem? hf]
      rfl
    · exact absurd hch hout.not_gt
  · intro s ch hch
    obtain ⟨hin, -⟩ | ⟨-, hx⟩ := exec_rpmrd_cases ch s
    · exact absurd hin hch.not_gt
    · exact hx

end Sys2Proof.Machine

/-! The PIDController: the stored output, the bound of the integral (R151, R154), and the law at the setpoint (R155). -/

namespace Sys2Proof.Machine

theorem exec_pidupd (m : Fx) (s : State) :
    exec (.pidupd m) s = .next ((pidUpdate m.toInt s).setRsp (okRsp (pidUpdate m.toInt s).lout 0#48)) := rfl

/-- The output range lies within `Fx`, so storing `OUT` loses nothing (R150). -/
theorem toFx_pidOutput_toInt (p i d : Int) : (toFx (pidOutput p i d)).toInt = pidOutput p i d := by
  have hge : 0 ≤ pidOutput p i d := clamp_ge (by norm_num)
  have hle : pidOutput p i d ≤ 6553600 := clamp_le _ _ _
  exact toFx_toInt (by unfold fxMin; omega) (by unfold fxMax; omega)

/-- Settles O41: each stored quantity was saturated or clamped, so it reads back exactly. -/
theorem pidupdFollowsTheControlLaw : Obligations.PidupdFollowsTheControlLaw := by
  intro s m _ sat' e el de imax iacc inew pterm iterm dterm
  have hel : el = (elapsedSince s.ltime s.now).toNat := (elapsedSince_toNat _ _).symm
  have hinew : inew = pidIntegral s.cfg s.integ.toInt (pidError s.cfg m.toInt) (elapsedSince s.ltime s.now).toNat :=
    hel ▸ rfl
  have hdterm : dterm = pidDerivative s.cfg de (elapsedSince s.ltime s.now).toNat := hel ▸ rfl
  have hiterm : iterm = pidIntegralTerm s.cfg inew := rfl
  refine ⟨_, _, _, rfl, ?_, toFx_sat_toInt _, ?_⟩
  · rw [hinew]
    exact toFx_sat_toInt _
  · rw [hiterm, hdterm, hinew]
    exact toFx_pidOutput_toInt ..

/-- Settles O42. -/
theorem pidOutputAlwaysWithinRange : Obligations.PidOutputAlwaysWithinRange :=
  fun s m => ⟨_, _, exec_pidupd m s, rfl, rfl, toFx_pidOutput_range ..⟩

theorem abs_fdiv_le_abs (n d : Int) : |fdiv n d| ≤ |n| := by
  obtain ⟨k, rfl | rfl⟩ := d.eq_nat_or_neg
  · rw [fdiv_eq_ediv k.cast_nonneg]
    exact Int.abs_ediv_le_abs n k
  · rw [← fdiv_neg_neg, neg_neg, fdiv_eq_ediv k.cast_nonneg, ← abs_neg n]
    exact Int.abs_ediv_le_abs (-n) k

/-- With `KI ≠ 0` the quotient of R151 is within the range of `Fx`, so `LB` is its exact negation. -/
theorem pidLowerBound_of_ki_ne_zero {cfg : Cfg} (h : cfg.ki.toInt ≠ 0) :
    pidLowerBound cfg = -fdiv 214748364800 cfg.ki.toInt := by
  have hquot : |fdiv 214748364800 cfg.ki.toInt| ≤ 214748364800 := abs_fdiv_le_abs _ _
  rw [abs_le] at hquot
  have himax : pidImax cfg = fdiv 214748364800 cfg.ki.toInt :=
    (if_neg h).trans (sat_of_range (by unfold fxMin; omega) (by unfold fxMax; omega))
  rw [pidLowerBound, himax]
  exact sat_of_range (by unfold fxMin; omega) (by unfold fxMax; omega)

/-- The integral `PIDUPD` stores, whatever its operand and the state (R154). -/
theorem pidLowerBound_le_integ_of_exec_pidupd {s t : State} {m : Fx} (h : exec (.pidupd m) s = .next t) :
    pidLowerBound s.cfg ≤ t.integ.toInt := by
  obtain rfl := Host.Outcome.next.inj ((exec_pidupd m s).symm.trans h)
  exact (pidLowerBound_le_pidIntegral ..).trans_eq (toFx_sat_toInt _).symm

/-- With `KI > 0` an integral at or above `-⌊50·2^32 / KI⌋` gives an integral term of at least -50.0 (R151). -/
theorem pidIntegralTerm_ge {cfg : Cfg} {inew : Int} (hki : 0 < cfg.ki.toInt)
    (h : -fdiv 214748364800 cfg.ki.toInt ≤ inew) : -3276800 ≤ pidIntegralTerm cfg inew := by
  rw [fdiv_eq_ediv hki.le] at h
  have hprod : -214748364800 ≤ cfg.ki.toInt * inew :=
    calc -214748364800 ≤ -(cfg.ki.toInt * (214748364800 / cfg.ki.toInt)) :=
          neg_le_neg (Int.mul_ediv_self_le hki.ne')
      _ = cfg.ki.toInt * -(214748364800 / cfg.ki.toInt) := (mul_neg ..).symm
      _ ≤ cfg.ki.toInt * inew := mul_le_mul_of_nonneg_left h hki.le
  rw [pidIntegralTerm, fdiv_eq_ediv (by norm_num)]
  omega

/-- Settles O43: the bound `LB` that the integral meets is the exact quotient's negation. -/
theorem integralNeverBelowItsBound : Obligations.IntegralNeverBelowItsBound := by
  intro s t m hki hx
  have hbound : -fdiv 214748364800 s.cfg.ki.toInt ≤ t.integ.toInt :=
    pidLowerBound_of_ki_ne_zero hki ▸ pidLowerBound_le_integ_of_exec_pidupd hx
  exact ⟨hbound, fun hpos => pidIntegralTerm_ge hpos hbound⟩

@[simp] theorem zero_fdiv (d : Int) : fdiv 0 d = 0 := Int.zero_fdiv d

@[simp] theorem pidError_setpoint (cfg : Cfg) : pidError cfg cfg.sp.toInt = 0 := by
  rw [pidError, sub_self]
  rfl

@[simp] theorem pidProportional_zero (cfg : Cfg) : pidProportional cfg 0 = 0 := by
  simp [pidProportional]

@[simp] theorem pidIntegralTerm_zero (cfg : Cfg) : pidIntegralTerm cfg 0 = 0 := by
  simp [pidIntegralTerm]

@[simp] theorem pidDerivative_zero (cfg : Cfg) (el : Nat) : pidDerivative cfg 0 el = 0 := by
  simp [pidDerivative]

@[simp] theorem toFx_zero : toFx 0 = 0#48 := rfl

/-- With every term zero the output is the bias 50.0 (R150). -/
@[simp] theorem toFx_pidOutput_zero : toFx (pidOutput 0 0 0) = 3276800#48 := rfl

/-- A zero integral stays zero at zero error: with `KI ≥ 0` its lower bound is not above it (R151). -/
theorem pidIntegral_zero {cfg : Cfg} (h : 0 ≤ cfg.ki.toInt) (el : Nat) : pidIntegral cfg 0 0 el = 0 := by
  rw [pidIntegral, zero_mul, zero_fdiv, add_zero, max_eq_left (pidLowerBound_nonpos h)]
  rfl

/-- At the setpoint from zero integral and zero last error all three terms vanish, and the bias is left (R155). -/
theorem pidUpdate_setpoint {s : State} (hki : 0 ≤ s.cfg.ki.toInt) (hinteg : s.integ = 0#48) (hlerr : s.lerr = 0#48) :
    pidUpdate s.cfg.sp.toInt s = s.setPid 0#48 0#48 s.now 3276800#48 := by
  simp [pidUpdate, hinteg, hlerr, pidIntegral_zero hki]

/-- Settles O44. -/
theorem setpointHoldsTheBias : Obligations.SetpointHoldsTheBias := by
  intro s _ hki hinteg hlerr
  rw [exec_pidupd, pidUpdate_setpoint hki hinteg hlerr]
  exact ⟨_, rfl, rfl, rfl, rfl, rfl, rfl⟩

/-- Settles O45: the response is the only write. -/
theorem pidrdResult : Obligations.PidrdResult := fun _ => rfl

end Sys2Proof.Machine

/-! The ActuationLayer: the floor clamp (R165), the commands that set a duty (R166, R167), and the output port (R168). -/

namespace Sys2Proof.Machine

/-- Operand, floor and 100.0 are all `Fx` values, and the clamp picks one of them, so a clamped operand is stored exactly
under any configuration (R165). -/
theorem clampDuty_fx_toInt (cfg : Cfg) (c : Fin 3) (d : Fx) :
    (clampDuty cfg c d.toInt).toInt = min (max d.toInt (cfg.floor.get c).toInt) 6553600 := by
  obtain ⟨hdlo, hdhi⟩ := fx_range d
  obtain ⟨hflo, hfhi⟩ := fx_range (cfg.floor.get c)
  exact toFx_toInt (le_min (le_max_of_le_left hdlo) (by decide)) (min_le_of_left_le (max_le hdhi hfhi))

/-- A duty within its floor and 100.0 is left alone (R165). -/
theorem clampDuty_of_range {cfg : Cfg} {c : Fin 3} {v : Fx} (hlo : (cfg.floor.get c).toInt ≤ v.toInt)
    (hhi : v.toInt ≤ 6553600) : clampDuty cfg c v.toInt = v := by
  rw [clampDuty, clamp_of_range hlo hhi, toFx_of_toInt]

/-- Settles O46: the first clamp gives a value in the range that the second leaves alone. -/
theorem floorClampIsIdempotent : Obligations.FloorClampIsIdempotent := by
  intro cfg c d h
  obtain ⟨hlo, hhi⟩ := clampDuty_range h c d.toInt
  exact ⟨clampDuty_fx_toInt cfg c d, hlo, hhi, clampDuty_of_range hlo hhi⟩

/-- Settles O47: the three duties are `clampAll`, each the clamp of its channel. -/
theorem applyClampsEveryChannel : Obligations.ApplyClampsEveryChannel := fun s d =>
  ⟨clampAll s.cfg d.toInt, rfl, clampDuty_fx_toInt s.cfg 0 d,
    clampDuty_fx_toInt s.cfg 1 d, clampDuty_fx_toInt s.cfg 2 d⟩

theorem exec_applyCh_of_eq {ch : ChannelIndex} {c : Fin 3} (h : ch.toNat = c.val) (d : Fx) (s : State) :
    exec (.applyCh ch d) s = .next ((s.setDuty (s.duty.set c (clampDuty s.cfg c d.toInt))).setRsp
      (okRsp (clampDuty s.cfg c d.toInt) 0#48)) := by
  obtain ⟨c', hc', hx⟩ | ⟨hge, _⟩ := exec_applyCh_cases ch d s
  · obtain rfl : c = c' := Fin.ext (h.symm.trans hc')
    exact hx
  · omega

theorem exec_applyCh_of_ge {ch : ChannelIndex} (h : 3 ≤ ch.toNat) (d : Fx) (s : State) :
    exec (.applyCh ch d) s = .next (s.setRsp errRsp) := by
  obtain ⟨c, hc, _⟩ | ⟨_, hx⟩ := exec_applyCh_cases ch d s
  · omega
  · exact hx

/-- Settles O48: reading the duty file after the one write, at the written channel and at the others. -/
theorem applychSetsOneChannel : Obligations.ApplychSetsOneChannel := by
  refine ⟨fun s c ch d h => ⟨s.duty.set c (clampDuty s.cfg c d.toInt), _, exec_applyCh_of_eq h d s, ?_,
    clampDuty_fx_toInt s.cfg c d, fun c' hne => ?_⟩, fun s ch d h => exec_applyCh_of_ge h d s⟩
  · rw [PerPwm.get_set, if_pos rfl]
  · rw [PerPwm.get_set, if_neg hne]

/-- The low 24 bits hold the whole of a non-negative value below `2^24` (R168). -/
theorem extractLsb'_low24_toNat {v : Fx} (h₀ : 0 ≤ v.toInt) (h₁ : v.toInt < 2 ^ 24) :
    ((v.extractLsb' 0 24).toNat : Int) = v.toInt := by
  have hv : v.toInt = v.toNat := BitVec.toInt_eq_toNat_of_lt (BitVec.toInt_pos_iff.1 h₀)
  rw [BitVec.extractLsb'_toNat, Nat.shiftRight_zero]
  omega

/-- Settles O49: under the invariant a duty is between a floor that is not negative and 100.0, which 24 bits hold; the
port shows the duty alone, so it changes only where the duty file does (R49). -/
theorem pwmPortCarriesTheDuty : Obligations.PwmPortCarriesTheDuty := by
  refine ⟨fun s c hinv => ?_, fun i s t c hx hne => ?_⟩
  · obtain ⟨hfloor, _⟩ := Cfg.floor_range hinv.cfg_wf c
    obtain ⟨hlo, hhi⟩ := hinv.duty_range c
    exact extractLsb'_low24_toNat (hfloor.trans hlo) (by omega)
  · obtain ⟨_, _, _, _, _, _, _, hduty, _⟩ := onlyTheOwnerWritesItsState i s t hx
    exact hduty fun heq => hne (by simp only [State.pwmDuty, heq])

end Sys2Proof.Machine

/-! The system commands: the no-operation (R175), and the host's read and clear of the latched flags (R176, R177). -/

namespace Sys2Proof.Machine

/-- The three flags stand at their own bits of a result, the other bits are zero (R176). -/
theorem zext48_flags_getLsbD (f : FlagSet) (k : Nat) :
    (zext48 f).getLsbD k = (decide (k < 3) && f.getLsbD k) := by
  rw [zext48, BitVec.getLsbD_setWidth]
  by_cases hk : k < 3
  · have hk48 : k < 48 := by omega
    rw [decide_eq_true hk, decide_eq_true hk48]
  · rw [BitVec.getLsbD_of_ge f k (not_lt.1 hk), Bool.and_false, Bool.and_false]

/-- A clear acts on each flag alone (R177). -/
theorem clearedFlags_getLsbD (f m : FlagSet) {k : Nat} (hk : k < 3) :
    (clearedFlags f m).getLsbD k = (f.getLsbD k && !m.getLsbD k) := by
  rw [clearedFlags, BitVec.getLsbD_and, BitVec.getLsbD_not, decide_eq_true hk, Bool.true_and]

/-- Settles O50: `NOP` writes the response alone, and its only word is its encoding. -/
theorem nopOnlyResponds : Obligations.NopOnlyResponds :=
  ⟨fun _ => rfl, fun _ _ => decode_eq_nop_iff⟩

/-- Settles O51: `r0` is the flags, zero-extended. -/
theorem flagrdResult : Obligations.FlagrdResult := fun s =>
  ⟨zext48 s.flags, rfl, zext48_flags_getLsbD s.flags⟩

/-- Settles O52: the flags written, and answered as `r1`, are `clearedFlags` of the old ones and the mask. -/
theorem flagclrClearsSelectedFlags : Obligations.FlagclrClearsSelectedFlags := fun s m =>
  ⟨clearedFlags s.flags m, rfl, fun _ => clearedFlags_getLsbD s.flags m⟩

end Sys2Proof.Machine

/-! What the events of a vector do to the state together (R190 to R194), and that their order does not matter (R195). -/

namespace Sys2Proof.Machine

/-- The state after the events of the vector `v` have each taken effect once under the data ports `p`: the bits of `ev`
are those of R83, and no event at all leaves the state alone. -/
def afterEvents (p : Ports) (v : EventVector) (s : State) : State :=
  { s with
    flags := s.flags ||| v.setWidth 3
    buf := if v.getLsbD 0 ∧ s.cfg.sampleMode = .event then (sampleWrite p.adcRaw s).buf else s.buf
    widx := if v.getLsbD 0 ∧ s.cfg.sampleMode = .event then (sampleWrite p.adcRaw s).widx else s.widx
    fans := if v.getLsbD 3 then pollFrom s.cfg p.tick p.tachLevel 0 s.fans else s.fans
    rsp := if v = 0#4 then s.rsp else none }

@[simp] theorem afterEvents_zero (p : Ports) (s : State) : afterEvents p 0#4 s = s := by
  simp [afterEvents]

/-- Two sets of events without a common member in a row are their union: a flag is raised by an OR, and only `EV_TEMP`
writes the buffer, only `EV_TACH` the fan channels. -/
theorem afterEvents_afterEvents (p : Ports) {v w : EventVector} (h : v &&& w = 0#4) (s : State) :
    afterEvents p w (afterEvents p v s) = afterEvents p (v ||| w) s := by
  have hbit (k : Nat) : v.getLsbD k = false ∨ w.getLsbD k = false := by
    rw [← Bool.and_eq_false_iff, ← BitVec.getLsbD_and, h, BitVec.getLsbD_zero]
  have hzero : v ||| w = 0#4 ↔ w = 0#4 ∧ v = 0#4 := BitVec.or_eq_zero_iff.trans and_comm
  have hflags : s.flags ||| v.setWidth 3 ||| w.setWidth 3 = s.flags ||| (v ||| w).setWidth 3 := by
    rw [BitVec.or_assoc, BitVec.setWidth_or]
  simp only [afterEvents, hflags, hzero, ite_and, BitVec.getLsbD_or]
  obtain h0 | h0 := hbit 0 <;> obtain h3 | h3 := hbit 3 <;>
    simp only [h0, h3, sampleWrite, State.setBuf, Bool.false_or, Bool.or_false, Bool.false_eq_true, if_false]

/-- What an event vector gives first, its four branches (R83). -/
theorem firstEvent_cases {v : EventVector} {i : Instr} {b : EventVector} (h : firstEvent v = some (i, b)) :
    (i = .evTemp ∧ b = 0b0001#4) ∨ (i = .evRpm ∧ b = 0b0010#4) ∨ (i = .evPid ∧ b = 0b0100#4) ∨
    (i = .evTach ∧ b = 0b1000#4) := by
  unfold firstEvent at h
  split_ifs at h <;> simp_all

/-- Each of the four events is the effect of its own bit. -/
theorem exec_of_firstEvent {v : EventVector} {i : Instr} {b : EventVector} (h : firstEvent v = some (i, b)) (s : State) :
    exec i s = .next (afterEvents s.input b s) := by
  obtain ⟨rfl, rfl⟩ | ⟨rfl, rfl⟩ | ⟨rfl, rfl⟩ | ⟨rfl, rfl⟩ := firstEvent_cases h
  · obtain ⟨hm, hx⟩ | ⟨hm, hx⟩ := exec_evTemp_cases s <;> rw [hx] <;>
      simp [afterEvents, hm, raiseFlags, tempDue, sampleWrite, State.adc, State.setBuf, State.setFlags, State.setRsp]
  · rfl
  · rfl
  · simp [exec, execEvTach, afterEvents, pollAll, State.now, State.levels, State.setFans, State.setRsp]

theorem exists_bit_of_isEvent {i : Instr} (h : i.isEvent = true) : ∃ b, firstEvent b = some (i, b) := by
  cases i
  case evTemp | evRpm | evPid | evTach => exact ⟨_, firstEvent_of_encode rfl⟩
  all_goals cases h

/-- Different events have different bits. -/
theorem and_eq_zero_of_firstEvent_ne {i j : Instr} {b c : EventVector} (hb : firstEvent b = some (i, b))
    (hc : firstEvent c = some (j, c)) (hij : i ≠ j) : b &&& c = 0#4 := by
  have key : ∀ b c : EventVector, (firstEvent b).map Prod.snd = some b → (firstEvent c).map Prod.snd = some c →
      b = c ∨ b &&& c = 0#4 := by decide
  refine (key b c (by rw [hb]; rfl) (by rw [hc]; rfl)).resolve_left fun hbc => hij ?_
  subst hbc
  simpa [hb] using hc

/-- Two different events in a row are the set of the two. -/
theorem eq_afterEvents_or {i j : Instr} {v w : EventVector} {s a b : State} (hv : firstEvent v = some (i, v))
    (hw : firstEvent w = some (j, w)) (hij : i ≠ j) (ha : exec i s = .next a) (hb : exec j a = .next b) :
    b = afterEvents s.input (v ||| w) s := by
  have hinput : a.input = s.input := (keepsFrame_of_exec ha).input
  obtain rfl := Host.Outcome.next.inj ((exec_of_firstEvent hv s).symm.trans ha)
  rw [exec_of_firstEvent hw, hinput, afterEvents_afterEvents _ (and_eq_zero_of_firstEvent_ne hv hw hij)] at hb
  exact (Host.Outcome.next.inj hb).symm

/-- Settles O16: the same event twice is the same in either order, and two different ones are the set of the two. -/
theorem eventsCommute : Obligations.EventsCommute := by
  intro i j s a b c d hi hj ha hb hc hd
  obtain ⟨v, hv⟩ := exists_bit_of_isEvent hi
  obtain ⟨w, hw⟩ := exists_bit_of_isEvent hj
  obtain rfl | hij := eq_or_ne i j
  · obtain rfl := Host.Outcome.next.inj (ha.symm.trans hc)
    exact Host.Outcome.next.inj (hb.symm.trans hd)
  · rw [eq_afterEvents_or hv hw hij ha hb, eq_afterEvents_or hw hv hij.symm hc hd, BitVec.or_comm]

/-- Settles O53: the two modes of `EV_TEMP`; in `EVENT` mode the invariant places the written slot inside the buffer. -/
theorem evTempSetsFlagAndSamplesInEventMode : Obligations.EvTempSetsFlagAndSamplesInEventMode := by
  intro s hinv
  obtain ⟨hm, hx⟩ | ⟨hm, hx⟩ := exec_evTemp_cases s
  · exact ⟨fun hp => (nomatch hm.symm.trans hp), fun _ => ⟨_, _, hx, bufWrite_length ..,
      bufRead_bufWrite_same s.buf _ hinv.widx_lt_length, fun _ hj => bufRead_bufWrite_other s.buf _ hj.symm,
      sampleWrite_widx_toNat hinv s.adc⟩⟩
  · exact ⟨fun _ => hx, fun he => (nomatch hm.symm.trans he)⟩

/-- Settles O34: the poll is that of `TACHPOLL`. -/
theorem evTachPollsEveryChannel : Obligations.EvTachPollsEveryChannel :=
  fun s => ⟨_, rfl, pollFrom_polledChannels s.cfg s.input s.fans⟩

/-- Settles O54: each raises its own bit and shows no response. -/
theorem evRpmAndEvPidSetTheirFlag : Obligations.EvRpmAndEvPidSetTheirFlag :=
  ⟨fun _ => rfl, fun _ => rfl⟩

end Sys2Proof.Machine

/-! Events presented together: the run takes them off the ports one a step until each has taken effect (R194). -/

namespace Sys2Proof.Machine

/-- The first event of a vector apart, one bit fewer is left, and the two parts have no bit in common. -/
theorem firstEvent_split {v : EventVector} {i : Instr} {b : EventVector} (h : firstEvent v = some (i, b)) :
    b &&& (v &&& ~~~b) = 0#4 ∧ b ||| (v &&& ~~~b) = v ∧
    (List.range 4).countP v.getLsbD = (List.range 4).countP (v &&& ~~~b).getLsbD + 1 := by
  have key : ∀ v : EventVector, (firstEvent v).all fun p => p.2 &&& (v &&& ~~~p.2) = 0#4 ∧ p.2 ||| (v &&& ~~~p.2) = v ∧
      (List.range 4).countP v.getLsbD = (List.range 4).countP (v &&& ~~~p.2).getLsbD + 1 := by decide
  simpa [h] using key v

/-- The step of an event among those presented (R194). -/
theorem step_of_firstEvent {s : State} {i : Instr} {b : EventVector} (hwf : s.cfg.wf = true) (hr : s.input.rst = false)
    (hc : s.input.cmd = none) (he : firstEvent s.input.ev = some (i, b)) :
    step s = .next ((afterEvents s.input b s).setInbox
      (if s.input.ev &&& ~~~b = 0#4 then s.inbox.tail
        else { s.input with ev := s.input.ev &&& ~~~b } :: s.inbox.tail)
      (if s.inbox = [] then s.inputDraws + 1 else s.inputDraws)) :=
  stepRunsThePresentedEvent s _ i b hwf hr hc he (exec_of_firstEvent he s)

theorem exists_firstEvent {v : EventVector} (h : v ≠ 0#4) : ∃ i b, firstEvent v = some (i, b) := by
  obtain ⟨⟨i, b⟩, hb⟩ := Option.ne_none_iff_exists'.1 (mt (firstEvent_eq_none_iff v).1 h)
  exact ⟨i, b, hb⟩

theorem countP_getLsbD_eq_zero_iff (v : EventVector) : (List.range 4).countP v.getLsbD = 0 ↔ v = 0#4 := by
  revert v
  decide

/-- The events `v` left on the ports take effect one a step, all under the data ports `p`; then the schedule moves on. -/
theorem run_events_left {p : Ports} (hr : p.rst = false) (hc : p.cmd = none) (l : List Ports) (n : Nat)
    (v : EventVector) {s : State} (hwf : s.cfg.wf = true) :
    core.run ((List.range 4).countP v.getLsbD) (s.setInbox (if v = 0#4 then l else { p with ev := v } :: l) n) =
      .next ((afterEvents p v s).setInbox l n) := by
  generalize hk : (List.range 4).countP v.getLsbD = k
  induction k generalizing v s with
  | zero =>
    obtain rfl := (countP_getLsbD_eq_zero_iff v).1 hk
    rw [if_pos rfl, afterEvents_zero]
    rfl
  | succ k ih =>
    have hv : v ≠ 0#4 := fun h => by simp [(countP_getLsbD_eq_zero_iff v).2 h] at hk
    obtain ⟨i, b, hb⟩ := exists_firstEvent hv
    obtain ⟨hdisj, hunion, hcount⟩ := firstEvent_split hb
    have hstep := step_of_firstEvent (s := s.setInbox ({ p with ev := v } :: l) n) hwf hr hc hb
    rw [if_neg hv, run_succ hstep]
    refine (ih (v &&& ~~~b) (s := afterEvents p b s) hwf (by omega)).trans ?_
    rw [afterEvents_afterEvents p hdisj, hunion]

/-- A presentation of events alone, from its first step to its last (R194). -/
theorem run_presentedEvents {s : State} (hwf : s.cfg.wf = true) (hr : s.input.rst = false) (hc : s.input.cmd = none)
    (hev : s.input.ev ≠ 0#4) :
    core.run ((List.range 4).countP s.input.ev.getLsbD) s = .next ((afterEvents s.input s.input.ev s).setInbox
      s.inbox.tail (if s.inbox = [] then s.inputDraws + 1 else s.inputDraws)) := by
  obtain ⟨i, b, hb⟩ := exists_firstEvent hev
  obtain ⟨hdisj, hunion, hcount⟩ := firstEvent_split hb
  rw [hcount, run_succ (step_of_firstEvent hwf hr hc hb)]
  refine (run_events_left hr hc _ _ _ (s := afterEvents s.input b s) hwf).trans ?_
  rw [afterEvents_afterEvents _ hdisj, hunion]

theorem afterEvents_sampled {p : Ports} {v : EventVector} {s : State} (hv : v.getLsbD 0 = true)
    (hm : s.cfg.sampleMode = .event) :
    (afterEvents p v s).buf = (sampleWrite p.adcRaw s).buf ∧ (afterEvents p v s).widx = (sampleWrite p.adcRaw s).widx :=
  ⟨if_pos ⟨hv, hm⟩, if_pos ⟨hv, hm⟩⟩

theorem afterEvents_not_sampled {p : Ports} {v : EventVector} {s : State}
    (h : v.getLsbD 0 = false ∨ s.cfg.sampleMode = .polled) :
    (afterEvents p v s).buf = s.buf ∧ (afterEvents p v s).widx = s.widx := by
  have hno : ¬ (v.getLsbD 0 = true ∧ s.cfg.sampleMode = .event) := by
    rintro ⟨hv, hm⟩
    rw [hv, hm] at h
    exact h.elim nofun nofun
  exact ⟨if_neg hno, if_neg hno⟩

/-- Settles O15: the run ends in `afterEvents` of the whole vector. -/
theorem presentedEventsAllTakeEffect : Obligations.PresentedEventsAllTakeEffect := by
  intro s hwf hr hc hev
  refine ⟨_, run_presentedEvents hwf hr hc hev, rfl, fun h0 hm => ?_, fun h => afterEvents_not_sampled h, fun h3 => ?_,
    fun h3 => if_neg (ne_true_of_eq_false h3), rfl, rfl, rfl, rfl, rfl, rfl, if_neg hev, rfl, rfl, rfl⟩
  · obtain ⟨hbuf, hwidx⟩ := afterEvents_sampled (p := s.input) h0 hm
    exact ⟨hbuf, (congrArg _ hwidx).trans (nextIndex_toNat s.widx (Cfg.cap_pos hwf) (Cfg.cap_le hwf))⟩
  · have hfans : (afterEvents s.input s.input.ev s).fans = pollFrom s.cfg s.now s.levels 0 s.fans := if_pos h3
    rw [State.setInbox_fans, hfans]
    exact pollFrom_polledChannels s.cfg s.input s.fans

end Sys2Proof.Machine

/-! Every operation completes (R186), and the events presented with a command follow it (R196). -/

namespace Sys2Proof.Machine

/-- Every operation completes, a command with a response and an event without one (R83, R89). -/
theorem exec_rsp_eq_none_iff (i : Instr) (s : State) :
    ∃ t, exec i s = .next t ∧ (t.rsp = none ↔ i.isEvent = true) := by
  cases i
  case temprd => obtain ⟨_, h⟩ | ⟨_, h⟩ := exec_temprd_cases s <;> exact ⟨_, h, iff_of_false nofun nofun⟩
  case rpmrd ch => obtain ⟨_, h⟩ | ⟨_, h⟩ := exec_rpmrd_cases ch s <;> exact ⟨_, h, iff_of_false nofun nofun⟩
  case applyCh ch d =>
    obtain ⟨_, _, h⟩ | ⟨_, h⟩ := exec_applyCh_cases ch d s <;> exact ⟨_, h, iff_of_false nofun nofun⟩
  case evTemp => obtain ⟨_, h⟩ | ⟨_, h⟩ := exec_evTemp_cases s <;> exact ⟨_, h, iff_of_true rfl rfl⟩
  case evRpm | evPid | evTach => exact ⟨_, rfl, iff_of_true rfl rfl⟩
  all_goals exact ⟨_, rfl, iff_of_false nofun nofun⟩

theorem rsp_eq_none_iff {i : Instr} {s t : State} (h : exec i s = .next t) : t.rsp = none ↔ i.isEvent = true := by
  obtain ⟨_, hx, hrsp⟩ := exec_rsp_eq_none_iff i s
  exact Host.Outcome.next.inj (hx.symm.trans h) ▸ hrsp

theorem step_of_reset {s : State} (hwf : s.cfg.wf = true) (hp : pendingOf s.cfg s.input = .reset) :
    step s = .next (retireAll (resetOp s)) := by
  simp [step, hwf, hp]

theorem step_of_idle {s : State} (hwf : s.cfg.wf = true) (hp : pendingOf s.cfg s.input = .idle) :
    step s = .next (retireAll (noResponse s)) := by
  simp [step, hwf, hp]

/-- Settles O11: the configuration is the only thing a step can refuse. -/
theorem everyOperationCompletes : Obligations.EveryOperationCompletes := by
  refine ⟨fun s hwf => ?_, exec_rsp_eq_none_iff⟩
  cases hp : pendingOf s.cfg s.input with
  | reset => exact ⟨_, step_of_reset hwf hp⟩
  | command i =>
    obtain ⟨t, hx, _⟩ := exec_keepsFrame i s
    exact ⟨_, step_of_command hwf hp hx⟩
  | illegal r => exact ⟨_, step_of_illegal hwf hp⟩
  | event i b =>
    obtain ⟨t, hx, _⟩ := exec_keepsFrame i s
    exact ⟨_, step_of_event hwf hp hx⟩
  | idle => exact ⟨_, step_of_idle hwf hp⟩

/-- The step of a presented command, legal or illegal: `a` is what its own effect and its response leave. -/
theorem step_of_presentedCommand {s : State} {w : CommandWord} (hwf : s.cfg.wf = true) (hr : s.input.rst = false)
    (hc : s.input.cmd = some w) :
    ∃ a, KeepsFrame s a ∧ a.rsp ≠ none ∧ step s = .next (retireCommand a) ∧
      (∀ c, decode s.cfg w = .ok c → exec c s = .next a) ∧ (∀ r, decode s.cfg w = .error r → a = respondErr s) := by
  cases hd : decode s.cfg w with
  | ok c =>
    obtain ⟨a, hx, hrsp⟩ := exec_rsp_eq_none_iff c s
    have hcmd : c.isEvent = false := isEvent_eq_false_of_encode (decode_eq_ok_iff.1 hd).1
    exact ⟨a, keepsFrame_of_exec hx, by simp [hrsp, hcmd], step_of_command hwf (pendingOf_command hr hc hd) hx,
      fun _ h => by cases h; exact hx, nofun⟩
  | error r =>
    exact ⟨respondErr s, ⟨rfl, rfl, rfl⟩, nofun, step_of_illegal hwf (pendingOf_illegal hr hc hd), nofun, fun _ _ => rfl⟩

/-- The schedule is not in the state of R47's table. -/
theorem sameCore_setInbox (s : State) (l : List Ports) (n : Nat) : SameCore s (s.setInbox l n) :=
  ⟨rfl, rfl, rfl, rfl, rfl, rfl, rfl, rfl, rfl, rfl⟩

/-- Settles O13: the command leaves its events on the port, and then the first of them is what is pending. -/
theorem eventTakesEffectAfterTheCommand : Obligations.EventTakesEffectAfterTheCommand := by
  intro s w hwf hr hc hev
  obtain ⟨a, hframe, hrsp, hstep, hlegal, hillegal⟩ := step_of_presentedCommand hwf hr hc
  obtain ⟨i, b, hb⟩ := exists_firstEvent hev
  rw [retireCommand_eq hframe hr, if_neg hev] at hstep
  generalize (if s.inbox = [] then s.inputDraws + 1 else s.inputDraws) = n at hstep
  have hcore := sameCore_setInbox a ({ s.input with cmd := none } :: s.inbox.tail) n
  have hx := exec_of_firstEvent hb (a.setInbox ({ s.input with cmd := none } :: s.inbox.tail) n)
  have hwf' : a.cfg.wf = true := by rw [hframe.cfg, hwf]
  refine ⟨_, _, i, b, hstep, hrsp, fun c hd => ⟨a, hlegal c hd, hcore, rfl⟩, fun r hd => ?_, rfl, hb, hx,
    (rsp_eq_none_iff hx).2 (firstEvent_isEvent hb), step_of_firstEvent hwf' hr rfl hb⟩
  obtain rfl := hillegal r hd
  exact ⟨{ hcore with }, rfl⟩

/-- Settles O14: the events left on the port run on what the clear left, and each flag is the OR of the two. -/
theorem flagSetSurvivesSimultaneousClear : Obligations.FlagSetSurvivesSimultaneousClear := by
  intro s w m hwf hr hc hd
  have hx : exec (.flagclr m) s = .next _ := rfl
  have hstep := step_of_command hwf (pendingOf_command hr hc hd) hx
  rw [retireCommand_eq (keepsFrame_of_exec hx) hr] at hstep
  refine ⟨_, _, hstep, rfl, run_events_left (p := { s.input with cmd := none }) hr rfl _ _ s.input.ev hwf, rfl,
    fun k hk => ?_⟩
  change (clearedFlags s.flags m ||| s.input.ev.setWidth 3).getLsbD k = _
  rw [BitVec.getLsbD_or, clearedFlags_getLsbD s.flags m hk, BitVec.getLsbD_setWidth, decide_eq_true hk, Bool.true_and,
    Bool.or_comm]

end Sys2Proof.Machine

/-! What the responses do not show (R203). -/

namespace Sys2Proof.Machine

theorem fanAt_rpm_congr {fs gs : List FanChannel} (h : gs.map FanChannel.rpm = fs.map FanChannel.rpm) (k : Nat) :
    (fanAt gs k).rpm = (fanAt fs k).rpm := by
  rw [fanAt, fanAt, ← List.getD_map (f := FanChannel.rpm), ← List.getD_map (f := FanChannel.rpm), h]

theorem rsp_of_exec_temprd {s a : State} (h : exec .temprd s = .next a) :
    a.rsp = okRsp
      (if curveDefined s.cfg (bufSum s.buf) then fxResult (tconv s.cfg (bufSum s.buf)) else Config.freeCurve s.curveDraws)
      (fxResult (meanQ16 s.cfg (bufSum s.buf))) := by
  obtain ⟨hd, hx⟩ | ⟨hd, hx⟩ := exec_temprd_cases s <;> cases hx.symm.trans h <;> simp [hd]

theorem rsp_of_exec_rpmrd {ch : ChannelIndex} {s a : State} (h : exec (.rpmrd ch) s = .next a) :
    a.rsp = if ch.toNat < s.cfg.n then okRsp (zext48 (fanAt s.fans ch.toNat).rpm) 0#48 else errRsp := by
  obtain ⟨hch, hx⟩ | ⟨hch, hx⟩ := exec_rpmrd_cases ch s <;> cases hx.symm.trans h
  · rw [if_pos hch]
    rfl
  · rw [if_neg hch.not_gt]
    rfl

theorem rsp_of_exec_applyCh {ch : ChannelIndex} {d : Fx} {s a : State} (h : exec (.applyCh ch d) s = .next a) :
    a.rsp = (pwmChannel ch).elim errRsp fun c => okRsp (clampDuty s.cfg c (fxOperand d)) 0#48 := by
  simp only [exec, execApplyCh] at h
  cases hc : pwmChannel ch <;> rw [hc] at h <;> cases h <;> rfl

/-- Settles O58: every answer but that of `PIDUPD` is made of the operands, the ports and what the two states share. -/
theorem hiddenStateIsNotReadable : Obligations.HiddenStateIsNotReadable := by
  intro i s t a b hpid hcfg hflags hbuf hinteg hlout hduty hrpm hinbox hdraws hcurve ha hb
  have hnow : t.now = s.now := congrArg Ports.tick (KeepsFrame.input ⟨hcfg, hinbox, hdraws⟩)
  cases i
  case pidupd m => exact absurd rfl (hpid m)
  case nop | tsample | tachpoll | rpmwin => cases ha; cases hb; rfl
  case evTemp | evRpm | evPid | evTach => rw [(rsp_eq_none_iff ha).2 rfl, (rsp_eq_none_iff hb).2 rfl]
  case elapsed | duetime => cases ha; cases hb; simp [hnow]
  case pidrd => cases ha; cases hb; simp [hlout, hinteg]
  case applyDuty => cases ha; cases hb; simp [hcfg]
  case flagrd | flagclr => cases ha; cases hb; simp [hflags]
  case temprd => rw [rsp_of_exec_temprd ha, rsp_of_exec_temprd hb, hcfg, hbuf, hcurve]
  case rpmrd ch => rw [rsp_of_exec_rpmrd ha, rsp_of_exec_rpmrd hb, hcfg, fanAt_rpm_congr hrpm]
  case applyCh => rw [rsp_of_exec_applyCh ha, rsp_of_exec_applyCh hb, hcfg]

end Sys2Proof.Machine

/-! Reset takes the whole presentation (R215, R216, R219). -/

namespace Sys2Proof.Machine

/-- R219: reset comes before any command and any event presented with it. -/
theorem pendingOf_reset (cfg : Cfg) {p : Ports} (hr : p.rst = true) : pendingOf cfg p = .reset := by
  simp [pendingOf, hr]

/-- Quiet ports are idle, so nothing of the presentation is put back in front of the schedule. -/
theorem retireAll_eq (s : State) :
    retireAll s = s.setInbox s.inbox.tail (if s.inbox.isEmpty then s.inputDraws + 1 else s.inputDraws) := rfl

/-- R215: `now0` is the sampled tick; what `resetOp` keeps beside it is not in the state of R47's table. -/
theorem sameCore_resetOp (s : State) : SameCore (State.resetAt s.cfg s.now) (resetOp s) :=
  ⟨rfl, rfl, rfl, rfl, rfl, rfl, rfl, rfl, rfl, rfl⟩

/-- Settles O18: reset is what is pending whatever else is presented, and `retireAll` touches only the schedule. -/
theorem resetAbandonsCommandAndEvents : Obligations.ResetAbandonsCommandAndEvents := by
  intro s hwf hr
  have hstep := step_of_reset hwf (pendingOf_reset s.cfg hr)
  rw [retireAll_eq] at hstep
  exact ⟨_, hstep, { sameCore_resetOp s with }, rfl, rfl⟩

end Sys2Proof.Machine
